-- ==== Sys2Proof/Word.lean ====
section
/-! DEFINITION. The word types of the machine: bytes, 16-bit words and 24-bit system addresses (spec/20_memory.md R60,
spec/10_state.md R20). -/

namespace Sys2Proof

/-- One byte: the width of every CPU bus access (R64). -/
abbrev Byte := BitVec 8

/-- A 16-bit word: the storage of A, X, Y, S, D and PC (R20). -/
abbrev Word := BitVec 16

/-- A SystemAddress: an 8-bit bank and a 16-bit offset (R60). -/
abbrev Addr := BitVec 24

end Sys2Proof
end

