-- ==== Sys2Proof/Config.lean ====
section
/-! DEFINITION. What is fixed for a machine and what the spec leaves free: the named parameters of spec/00_scope.md R7 with their
defaults, and the free values (opaque constants, of which no proof can see a value). -/

namespace Sys2Proof

/-- The external devices the decoder routes to (R68, R74, R76). -/
inductive ExtDev where
  | ppu | apu | onChipIo | dma | expansion
  deriving DecidableEq, Repr

/-- `DP_PENALTY_TEST` (R7, R150): what the direct-page cycle tests. -/
inductive DpPenaltyTest where
  | wholeD | lowByte
  deriving DecidableEq, Repr

/-- `DECIMAL_NONBCD` (R7, R250): what a decimal sum of non-BCD operands gives. -/
inductive DecimalNonBcd where
  | algorithm | draw
  deriving DecidableEq, Repr

/-- `UNINIT_READ` (R7, R54): what reading a value that reset leaves a draw gives before that value is first written. -/
inductive UninitRead where
  | draw | fault
  deriving DecidableEq, Repr

/-- The named parameters of R7. `noWrap` and `noWrapInt` are `EMU_STACK_NOWRAP_SET`: an instruction is named in it by its opcode
byte, interrupt entry (`INT`, R340) by the Boolean (DESIGN CHOICE, log 14). -/
structure Params where
  indexBankCarry   : Bool := true
  pageCrossPenalty : Bool := true
  dpPenaltyTest    : DpPenaltyTest := .wholeD
  branchCycles     : Bool := true
  noWrap           : List Byte := []
  noWrapInt        : Bool := false
  decimalNonBcd    : DecimalNonBcd := .algorithm
  wmaddReadable    : Bool := true
  extAgent         : Bool := false
  uninitRead       : UninitRead := .draw
  deriving DecidableEq, Repr

/-- `ExtOracle.read` (R76): the answer to a read of `n` bytes, `none` where the device does not answer (open bus). `history` is the
number of accesses the external devices have seen, so every access draws anew (log 7). -/
opaque Config.extRead (history : Nat) (dev : ExtDev) (addr : Addr) (nondestructive : Bool) (n : Nat) : Option (Vector Byte n)

/-- `ExtOracle.write` (R76): the success flag of a write. -/
opaque Config.extWriteOk (history : Nat) (dev : ExtDev) (addr : Addr) (bytes : List Byte) : Bool

/-- The draw of R418: true takes the I value from before the instruction, false the one from after it (log 8). -/
opaque Config.maskDraw (draw : Nat) : Bool

/-- The draw of `DECIMAL_NONBCD = DRAW` (R250): result, carry and overflow (log 9). -/
opaque Config.decimalDraw (draw : Nat) : Word × Bool × Bool

end Sys2Proof
end

