-- ==== Sys2Proof/Machine/State.lean ====
section
/-! DEFINITION. The state of the machine as plain data (spec/10_state.md R20 to R55), the reasons a step or a device call stops,
and the state after reset (R54). -/

namespace Sys2Proof.Machine

/-- Memory: the listed (address, byte) cells, in the canonical form of `Mem.wf`; what an unlisted address reads as is
`Mem.unlisted`. -/
abbrev Mem := List Host.Cell

/-- The status register P with the emulation bit E (R32): nine named bits; bits 15 to 9 of the word are always 0 and not stored. -/
structure Status where
  n : Bool
  v : Bool
  m : Bool
  x : Bool
  d : Bool
  i : Bool
  z : Bool
  c : Bool
  e : Bool
  deriving DecidableEq, Repr

/-- The CPU register file (R20). DB and PB hold the 8 significant bits of their 16-bit storage, whose high byte is always 0
(R27, R28). -/
structure Cpu where
  a  : Word
  x  : Word
  y  : Word
  s  : Word
  d  : Word
  db : Byte
  pb : Byte
  pc : Word
  p  : Status
  deriving DecidableEq, Repr

/-- A constructed cartridge (R48): `rom` holds the bytes of `romData` below `romLen`. Nothing in it changes after construction. -/
structure Cartridge where
  isLoRom         : Bool
  hasHeaderOffset : Bool
  rom             : Mem
  romLen          : Nat
  regHeader       : List Byte
  vectors         : List Byte
  deriving DecidableEq, Repr

/-- What the MMU owns (R45 to R48): the open-bus latch, the WorkRam with its 17-bit address latch, the SRAM buffers and the
cartridge. `extCount` is the model's own count of accesses to external devices (log 7). -/
structure Bus where
  latch    : Byte
  wram     : Mem
  wmAddr   : BitVec 17
  sram1    : Mem
  sram2    : Mem
  sramH    : Mem
  cart     : Option Cartridge
  extCount : Nat
  deriving DecidableEq, Repr

/-- The run state (R51). -/
inductive RunState where
  | running | waiting | stopped
  deriving DecidableEq, Repr

/-- The values that R54 leaves a draw outside the memories: the bytes of A, the low bytes of X, Y and S, four flags, the open-bus
latch, and the three views of `WmAddr` (bits 7 to 0, bits 15 to 8, bit 16). -/
inductive Drawn where
  | aLo | aHi | xLo | yLo | sLo | n | v | z | c | latch | wmLo | wmMid | wmHi
  deriving DecidableEq, Repr

/-- The model's own record of what has been written since power-on, for `UNINIT_READ = FAULT` (R54, log 5): the values still
unwritten, the memory cells written (byte 1 at `ramIndex` of each), and whether an unwritten one has been read. With
`UNINIT_READ = DRAW` it never changes. -/
structure Marks where
  unwritten : List Drawn
  cells     : Mem
  violated  : Bool
  deriving DecidableEq, Repr

/-- What the outside supplies at one boundary: the three lines, asserted when true (R411), and what the external agent does before
it (R77), used only when `EXT_AGENT_WRAM_ACCESS` is true. -/
structure BoundaryInput where
  reset       : Bool := false
  nmi         : Bool := false
  irq         : Bool := false
  agentWrites : List (BitVec 17 × Byte) := []
  agentWmAddr : Option (BitVec 17) := none
  deriving DecidableEq, Repr

/-- The whole machine. `params` and `inputs` are what the step relation takes as arguments (R53); `inputs` lists the boundaries to
come, and past its end every line is deasserted (log 10). `iBefore` is P.I as it was before the instruction just executed when
that is one of the six of R418. `draws` is the model's own count of draws (log 8, 9), `marks` its own record for
`UNINIT_READ = FAULT` (log 5). -/
structure State where
  cpu        : Cpu
  bus        : Bus
  run        : RunState
  nmiPending : Bool
  nmiPrev    : Bool
  cycles     : Nat
  iBefore    : Option Bool
  draws      : Nat
  marks      : Marks
  params     : Params
  inputs     : List BoundaryInput
  deriving DecidableEq, Repr

/-- The faults of the device contract (R434), which no CPU instruction causes, and the fault of `UNINIT_READ = FAULT`. -/
inductive Fault where
  /-- Raised by every buffered access with an empty buffer, through the MMU or at a device (R72). Safe: a caller contract. -/
  | emptyBuffer
  /-- Raised by a buffered Bus A access past 0x1FFFF or outside WorkRam's banks, and by a Bus B port outside 0x2180 to 0x2183
  (R80 to R82). Safe: the spec's own fault. -/
  | outOfRange
  /-- Raised by a step under `UNINIT_READ = FAULT` only, where a value or memory byte that reset leaves a draw has been read before
  its first write (R54, R463, R474; log 5). Safe: the spec's own fault. -/
  | uninitialisedRead
  deriving DecidableEq, Repr

/-- The refusals. -/
inductive Refusal where
  /-- Raised by an arm of exec whose instruction has no meaning yet. Safe. -/
  | notModelled (mnemonic : String)
  /-- Raised by a buffered Bus B access of more than one byte (R88). Safe: the spec's own refusal. -/
  | multiBytePortAccess
  /-- Raised by a buffered `Mmu.read` or `Mmu.write` with a buffer of more than 4 bytes, which the contract does not offer (R6, R63)
  and for which it gives no result (DESIGN CHOICE, log 22). Safe: the model stops. -/
  | bufferTooLong
  /-- Raised by a step of a machine with no constructed cartridge (R434). Safe: the spec's own refusal. -/
  | noCartridge
  deriving DecidableEq, Repr

/-- The machine right after reset (R54, R460), with no cartridge inserted yet (ROM_IMAGE is the host's to supply, log 4): the values
the spec states; zero for each value it leaves a draw (DESIGN CHOICE, log 1 to 3); PC the open-bus replica of the reset vector
(DEDUCED, log 4); the default parameters of R7. -/
def State.reset : State where
  cpu := {
    a := 0, x := 0, y := 0, s := 0x0100, d := 0, db := 0, pb := 0, pc := 0
    p := { n := false, v := false, m := true, x := true, d := false, i := true, z := false, c := false, e := true } }
  bus := { latch := 0, wram := [], wmAddr := 0, sram1 := [], sram2 := [], sramH := [], cart := none, extCount := 0 }
  run := .running
  nmiPending := false
  nmiPrev := false
  cycles := 0
  iBefore := none
  draws := 0
  marks := { unwritten := [.aLo, .aHi, .xLo, .yLo, .sLo, .n, .v, .z, .c, .latch, .wmLo, .wmMid, .wmHi], cells := [], violated := false }
  params := {}
  inputs := []

end Sys2Proof.Machine
end

