-- ==== Sys2Proof/Machine/Memory.lean ====
section
/-! DEFINITION. Byte memory in canonical form, and the byte and width helpers the rest of the machine uses. -/

namespace Sys2Proof.Machine

/-! ## Memory cells -/

/-- What an address with no listed cell reads as. The spec leaves WRAM and SRAM contents at power-on a draw (R54, R93): DESIGN
CHOICE zero (log 3). -/
def Mem.unlisted : Byte := 0

/-- The byte at an address. -/
def Mem.read : Mem → Nat → Byte
  | [], _ => Mem.unlisted
  | (k, v) :: rest, a => if k = a then v else Mem.read rest a

/-- Store a byte, keeping the canonical form. -/
def Mem.write : Mem → Nat → Byte → Mem
  | [], a, v => if v = Mem.unlisted then [] else [(a, v)]
  | (k, w) :: rest, a, v =>
    if a < k then
      if v = Mem.unlisted then (k, w) :: rest else (a, v) :: (k, w) :: rest
    else if k = a then
      if v = Mem.unlisted then rest else (a, v) :: rest
    else (k, w) :: Mem.write rest a v

/-- Canonical from an address on: strictly rising, below the bound, no cell equal to what an unlisted address reads as. -/
def Mem.wfFrom (bound : Nat) : Nat → Mem → Bool
  | _, [] => true
  | lo, (k, v) :: rest => decide (lo ≤ k) && decide (k < bound) && decide (v ≠ Mem.unlisted) && Mem.wfFrom bound (k + 1) rest

/-- The canonical form of a memory of `bound` bytes. -/
def Mem.wf (bound : Nat) (m : Mem) : Bool := Mem.wfFrom bound 0 m

/-! ## Bytes, words and addresses -/

/-- `bank : offset` (R60). -/
def addr24 (bank : Byte) (offset : Word) : Addr := bank ++ offset

/-- The bank of an address (R60). -/
def bankOf (a : Addr) : Byte := (a >>> 16).setWidth 8

/-- The offset of an address (R60). -/
def offsetOf (a : Addr) : Word := a.setWidth 16

/-- A byte as the 16-bit word with high byte 0. -/
def byteWord (b : Byte) : Word := b.setWidth 16

/-- `hi :: lo` (R61). -/
def wordOf (hi lo : Byte) : Word := hi ++ lo

/-! ## Operation widths (R30) -/

/-- An operation width: one byte or two. -/
inductive Width where
  | w8 | w16
  deriving DecidableEq, Repr

/-- The width a 16-bit flag selects. -/
def Width.of (wide : Bool) : Width := if wide then .w16 else .w8

/-- The width in bytes. -/
def Width.bytes : Width → Nat
  | .w8 => 1
  | .w16 => 2

/-- `mask(w)`: the largest value of the width. -/
def Width.mask : Width → Word
  | .w8 => 0x00FF
  | .w16 => 0xFFFF

/-- `v & mask(w)`. -/
def Width.trunc (w : Width) (v : Word) : Word := v &&& w.mask

/-- `msb(v, w)`: bit 8w-1. -/
def Width.msb (w : Width) (v : Word) : Bool := v.getLsbD (8 * w.bytes - 1)

/-- Bit 8w-2, which BIT copies to V (R258). -/
def Width.msb2 (w : Width) (v : Word) : Bool := v.getLsbD (8 * w.bytes - 2)

end Sys2Proof.Machine
end

