-- ==== Sys2Proof/Machine/Cartridge.lean ====
section
/-! DEFINITION. The cartridge: construction with header autodetection (spec/20_memory.md R90 to R95) and the LoROM/HiROM
bank-address translation (R100 to R111). -/

namespace Sys2Proof.Machine

/-! ## Construction (R90 to R92) -/

/-- ROM_IMAGE, the cartridge file: its size in bytes and the bytes that are not zero, by offset. -/
structure RomImage where
  size  : Nat
  bytes : Mem
  deriving DecidableEq, Repr

/-- A byte of the file. -/
def RomImage.at (img : RomImage) (k : Nat) : Byte := img.bytes.read k

/-- Two bytes of the file, little-endian. -/
def RomImage.u16 (img : RomImage) (k : Nat) : Word := wordOf (img.at (k + 1)) (img.at k)

/-- The bytes of the file from an offset on. -/
def RomImage.slice (img : RomImage) (start n : Nat) : List Byte := (List.range n).map fun k => img.at (start + k)

/-- One autodetection hypothesis. -/
structure Hypothesis where
  isLoRom         : Bool
  hasHeaderOffset : Bool
  deriving DecidableEq, Repr

/-- The four hypotheses, in the order they are tried (R90). -/
def hypotheses : List Hypothesis := [⟨false, false⟩, ⟨true, false⟩, ⟨false, true⟩, ⟨true, true⟩]

/-- The length of the copier header a hypothesis assumes. -/
def Hypothesis.skip (h : Hypothesis) : Nat := if h.hasHeaderOffset then 512 else 0

/-- The start of the registration header under a hypothesis (R91). -/
def Hypothesis.start (h : Hypothesis) : Nat := (if h.isLoRom then 0x7FB0 else 0xFFB0) + h.skip

/-- The acceptance test (R91), with the vector block inside the file too (R92). -/
def Hypothesis.accepts (img : RomImage) (h : Hypothesis) : Bool :=
  decide (h.start + 0x50 ≤ img.size) && (img.u16 (h.start + 0x2E) == ~~~ img.u16 (h.start + 0x2C))

/-- The ROM bytes of a file: what follows the copier header (R92). -/
def RomImage.romData (img : RomImage) (skip : Nat) : Mem :=
  img.bytes.filterMap fun c => if skip ≤ c.1 ∧ c.1 < img.size then some (c.1 - skip, c.2) else none

/-- The cartridge of an accepted hypothesis (R92). -/
def Hypothesis.cartridge (img : RomImage) (h : Hypothesis) : Cartridge where
  isLoRom := h.isLoRom
  hasHeaderOffset := h.hasHeaderOffset
  rom := img.romData h.skip
  romLen := img.size - h.skip
  regHeader := img.slice h.start 0x30
  vectors := img.slice (h.start + 0x30) 0x20

/-- Construction: the first accepted hypothesis wins; `none` is FormatError (R90, R91). -/
def constructCartridge (img : RomImage) : Option Cartridge :=
  (hypotheses.find? (·.accepts img)).map (·.cartridge img)

/-! ## Header and vector fields (R94, R95) -/

/-- A two-byte field of a block, little-endian. -/
def field16 (block : List Byte) (k : Nat) : Word := wordOf (block.getD (k + 1) 0) (block.getD k 0)

/-- The maker code (R94). -/
def Cartridge.makerCode (c : Cartridge) : Word := field16 c.regHeader 0x00

/-- The game code (R94). -/
def Cartridge.gameCode (c : Cartridge) : BitVec 32 := field16 c.regHeader 0x04 ++ field16 c.regHeader 0x02

/-- The 21 title bytes (R94). -/
def Cartridge.gameTitle (c : Cartridge) : List Byte := (c.regHeader.drop 0x10).take 21

/-- The ROM size code (R94). -/
def Cartridge.romSizeCode (c : Cartridge) : Byte := c.regHeader.getD 0x27 0

/-- The RAM size code (R94). -/
def Cartridge.ramSizeCode (c : Cartridge) : Byte := c.regHeader.getD 0x28 0

/-- The checksum complement (R94). -/
def Cartridge.checksumComplement (c : Cartridge) : Word := field16 c.regHeader 0x2C

/-- The checksum (R94). -/
def Cartridge.checksum (c : Cartridge) : Word := field16 c.regHeader 0x2E

/-- The six kinds of the vector block (R95). -/
inductive VectorKind where
  | cop | brk | abort | nmi | reset | irq
  deriving DecidableEq, Repr

/-- The offset of a kind in its half of the vector block (R95). -/
def VectorKind.offset : VectorKind → Nat
  | .cop => 0x04 | .brk => 0x06 | .abort => 0x08 | .nmi => 0x0A | .reset => 0x0C | .irq => 0x0E

/-- A field of the vector block, as the loader keeps it (R95). The CPU takes its vectors from the bus. -/
def Cartridge.vector (c : Cartridge) (emulation : Bool) (k : VectorKind) : Word :=
  field16 c.vectors (k.offset + if emulation then 0x10 else 0)

/-! ## Bank-address translation (R100 to R111) -/

/-- What a cartridge address reaches (R100). -/
inductive CartTarget where
  | rom | mode20Sram1 | mode20Sram2 | mode21Sram | unmapped
  deriving DecidableEq, Repr

/-- The banks whose offsets the decoder splits: 0x00 to 0x3F and 0x80 to 0xBF (R68). -/
def ioBank (b : Nat) : Bool := decide (b ≤ 0x3F) || decide (0x80 ≤ b ∧ b ≤ 0xBF)

/-- The LoROM translation (R101 to R107). For an address the MMU never sends to the cartridge, which a buffered access can cross to, the
spec lists no case: banks 7E and 7F and the lower offsets of the banks 00 to 3F and 80 to BF are unmapped, at 0 (DESIGN CHOICE, log 23). -/
def loRomLocal (b o : Nat) : CartTarget × Nat :=
  if ioBank b then
    if 0x8000 ≤ o then (.rom, b % 0x40 * 0x8000 + (o - 0x8000)) else (.unmapped, 0)
  else if (0x40 ≤ b ∧ b ≤ 0x6F) ∨ (0xC0 ≤ b ∧ b ≤ 0xEF) then (.rom, 0x200000 + b % 0x40 * 0x8000 + o)
  else if (0x70 ≤ b ∧ b ≤ 0x7D) ∨ (0xF0 ≤ b ∧ b ≤ 0xFD) then
    let k := if b ≤ 0x7D then b - 0x70 else b - 0xF0
    if o < 0x8000 then (.mode20Sram1, k * 0x8000 + o) else (.rom, 0x380000 + k * 0x8000 + (o - 0x8000))
  else if 0xFE ≤ b then
    if o < 0x8000 then (.mode20Sram2, (b - 0xFE) * 0x8000 + o) else (.rom, 0x3F0000 + (b - 0xFE) * 0x8000 + (o - 0x8000))
  else (.unmapped, 0)

/-- The HiROM translation (R108 to R111). For an address the MMU never sends to the cartridge the spec lists no case: banks 7E and 7F
and the lower offsets outside the SRAM window are unmapped, at 0 (DESIGN CHOICE, log 23). -/
def hiRomLocal (b o : Nat) : CartTarget × Nat :=
  if ioBank b then
    if 0x8000 ≤ o then (.rom, b % 0x40 * 0x10000 + o)
    else if ((0x20 ≤ b ∧ b ≤ 0x3F) ∨ (0xA0 ≤ b ∧ b ≤ 0xBF)) ∧ 0x6000 ≤ o ∧ o ≤ 0x7FFF then
      (.mode21Sram, b % 0x20 * 0x2000 + (o - 0x6000))
    else (.unmapped, 0)
  else if (0x40 ≤ b ∧ b ≤ 0x7D) ∨ 0xC0 ≤ b then (.rom, b % 0x40 * 0x10000 + o)
  else (.unmapped, 0)

/-- `convert_to_local_addr` (R100). -/
def convertToLocalAddr (isLoRom : Bool) (a : Addr) : CartTarget × Nat :=
  if isLoRom then loRomLocal (bankOf a).toNat (offsetOf a).toNat else hiRomLocal (bankOf a).toNat (offsetOf a).toNat

end Sys2Proof.Machine
end

