-- ==== Sys2Proof/Machine/Bus.lean ====
section
/-! DEFINITION. The MMU: address decoding, the WorkRam with its two paths, the cartridge on the bus, open bus, and the device
contract with buffers (spec/20_memory.md R63 to R88, R112, R113). -/

namespace Sys2Proof.Machine

/-! ## Address decoding (R68, R69, R73, R74) -/

/-- What the decoder sends an address to. -/
inductive Target where
  | wramA | wramPort | cart | ext (dev : ExtDev) | unmapped
  deriving DecidableEq, Repr

/-- The decoder of one offset in the banks 0x00 to 0x3F and 0x80 to 0xBF (R68). -/
def ioTarget (o : Nat) : Target :=
  if o ≤ 0x1FFF then .wramA
  else if o ≤ 0x20FF then .unmapped
  else if o ≤ 0x213F then .ext .ppu
  else if o ≤ 0x217F then .ext .apu
  else if o ≤ 0x2183 then .wramPort
  else if o ≤ 0x21FF then .ext .expansion
  else if o ≤ 0x3FFF then .cart
  else if o ≤ 0x42FF then .ext .onChipIo
  else if o ≤ 0x5FFF then .ext .dma
  else .cart

/-- `Mmu.get_target` (R68, R69). -/
def getTarget (a : Addr) : Target :=
  let b := (bankOf a).toNat
  if ioBank b then ioTarget (offsetOf a).toNat
  else if (0x40 ≤ b ∧ b ≤ 0x7D) ∨ 0xC0 ≤ b then .cart
  else if 0x7E ≤ b ∧ b ≤ 0x7F then .wramA
  else .unmapped

/-! ## Memory cells: the bytes the block stores -/

/-- The byte arrays of the block. -/
inductive Region where
  | wram | sram1 | sram2 | sramH | rom
  deriving DecidableEq, Repr

/-- One byte of one array: the region and the local address. -/
abbrev CellId := Region × Nat

/-- The byte a cell holds. -/
def Bus.cellByte (b : Bus) (c : CellId) : Byte :=
  match c.1 with
  | .wram => b.wram.read c.2
  | .sram1 => b.sram1.read c.2
  | .sram2 => b.sram2.read c.2
  | .sramH => b.sramH.read c.2
  | .rom =>
    match b.cart with
    | some cart => cart.rom.read c.2
    | none => Mem.unlisted

/-- Store into a cell; ROM never changes (R48, R113). -/
def Bus.setCell (b : Bus) (c : CellId) (v : Byte) : Bus :=
  match c.1 with
  | .wram => { b with wram := b.wram.write c.2 v }
  | .sram1 => { b with sram1 := b.sram1.write c.2 v }
  | .sram2 => { b with sram2 := b.sram2.write c.2 v }
  | .sramH => { b with sramH := b.sramH.write c.2 v }
  | .rom => b

/-! ## WorkRam (R80 to R87) -/

/-- The Bus A local address (R80); `none` where the bank is outside WorkRam's (a contract violation). -/
def busALocal (a : Addr) : Option Nat :=
  if ioBank (bankOf a).toNat then some (a.toNat % 0x2000)
  else if 0x7E ≤ (bankOf a).toNat ∧ (bankOf a).toNat ≤ 0x7F then some (a.toNat % 0x20000)
  else none

/-- A Bus B read of one byte at a port (R84, R87): the byte, `none` where the port is not serviced. -/
def Bus.portRead (readable nondestructive : Bool) (port : Word) (b : Bus) : Option Byte × Bus :=
  if port = 0x2180 then
    (some (b.cellByte (.wram, b.wmAddr.toNat)), if nondestructive then b else { b with wmAddr := b.wmAddr + 1 })
  else if !readable then (none, b)
  else if port = 0x2181 then (some (b.wmAddr.setWidth 8), b)
  else if port = 0x2182 then (some ((b.wmAddr >>> 8).setWidth 8), b)
  else (some ((b.wmAddr >>> 16).setWidth 8), b)

/-- A Bus B write of one byte at a port (R85, R86). -/
def Bus.portWrite (port : Word) (v : Byte) (b : Bus) : Bus :=
  if port = 0x2180 then { b.setCell (.wram, b.wmAddr.toNat) v with wmAddr := b.wmAddr + 1 }
  else if port = 0x2181 then { b with wmAddr := (b.wmAddr &&& 0x1FF00) ||| v.setWidth 17 }
  else if port = 0x2182 then { b with wmAddr := (b.wmAddr &&& 0x100FF) ||| (v.setWidth 17 <<< 8) }
  else { b with wmAddr := (b.wmAddr &&& 0x0FFFF) ||| ((v &&& 1).setWidth 17 <<< 16) }

/-! ## The cartridge on the bus (R112, R113) -/

/-- The cell a translated cartridge address reaches: ROM only below `romLen` (R112). -/
def Cartridge.cell (cart : Cartridge) (a : Addr) : Option CellId :=
  match convertToLocalAddr cart.isLoRom a with
  | (.rom, l) => if l < cart.romLen then some (.rom, l) else none
  | (.mode20Sram1, l) => some (.sram1, l)
  | (.mode20Sram2, l) => some (.sram2, l)
  | (.mode21Sram, l) => some (.sramH, l)
  | (.unmapped, _) => none

/-- The cell an address of the cartridge's ranges reaches; with no cartridge none is serviced. -/
def Bus.cartCell (b : Bus) (a : Addr) : Option CellId :=
  b.cart.bind fun cart => cart.cell a

/-- The memory cell an access at an address reaches: WRAM directly or through WMDATA, SRAM or ROM. -/
def Bus.locate (b : Bus) (a : Addr) : Option CellId :=
  match getTarget a with
  | .wramA => (busALocal a).map fun l => (.wram, l)
  | .wramPort => if offsetOf a = 0x2180 then some (.wram, b.wmAddr.toNat) else none
  | .cart => b.cartCell a
  | .ext _ => none
  | .unmapped => none

/-- The memory cell a store at an address writes: as `locate`, but ROM is never written (R113). -/
def Bus.storeCell (b : Bus) (a : Addr) : Option CellId :=
  (b.locate a).bind fun c => if c.1 = .rom then none else some c

/-! ## One-byte device accesses -/

/-- A one-byte read by the device an address decodes to: the byte where it is serviced (R76, R81, R84, R87, R112). -/
def Bus.deviceRead (readable nondestructive : Bool) (a : Addr) (b : Bus) : Option Byte × Bus :=
  match getTarget a with
  | .wramA => ((busALocal a).map fun l => b.cellByte (.wram, l), b)
  | .wramPort => b.portRead readable nondestructive (offsetOf a)
  | .cart => ((b.cartCell a).map b.cellByte, b)
  | .ext dev =>
    ((Config.extRead b.extCount dev a nondestructive 1).map fun v => v[0], { b with extCount := b.extCount + 1 })
  | .unmapped => (none, b)

/-- A one-byte write by the device an address decodes to, with its success flag (R76, R81, R85, R86, R113). -/
def Bus.deviceWrite (a : Addr) (v : Byte) (b : Bus) : Bool × Bus :=
  match getTarget a with
  | .wramA =>
    match busALocal a with
    | some l => (true, b.setCell (.wram, l) v)
    | none => (false, b)
  | .wramPort => (true, b.portWrite (offsetOf a) v)
  | .cart =>
    match b.cartCell a with
    | some c => (decide (c.1 ≠ .rom), b.setCell c v)
    | none => (false, b)
  | .ext dev => (Config.extWriteOk b.extCount dev a [v], { b with extCount := b.extCount + 1 })
  | .unmapped => (false, b)

/-- `Mmu.read` of one byte (R70): the byte, or the open-bus replica; a serviced read writes the latch. -/
def Bus.read (readable nondestructive : Bool) (a : Addr) (b : Bus) : Byte × Bus :=
  let r := b.deviceRead readable nondestructive a
  match r.1 with
  | some v => (v, { r.2 with latch := v })
  | none => (r.2.latch, r.2)

/-- `Mmu.write` of one byte (R71). The CPU ignores the success flag (R65). -/
def Bus.write (a : Addr) (v : Byte) (b : Bus) : Bus := (b.deviceWrite a v).2

/-! ## The device contract with buffers (R63, R70 to R72, R80 to R88, R112), for non-CPU callers -/

/-- A call with a buffer of `n` bytes, which must not be empty: "for every call" (R72), so at the devices as at the MMU, and tested
before anything else about the call (DESIGN CHOICE, log 21: the spec gives no order). -/
def withBuffer (n : Nat) (call : Host.Outcome α Fault Refusal) : Host.Outcome α Fault Refusal :=
  if n = 0 then .fault .emptyBuffer else call

/-- A call of the MMU with a buffer of `n` bytes. The contract's transfers are 1 to 4 bytes (R6, R63) and the spec gives no result for
more: the model refuses them (DESIGN CHOICE, log 22). -/
def withinTransfer (n : Nat) (call : Host.Outcome α Fault Refusal) : Host.Outcome α Fault Refusal :=
  if 4 < n then .refused .bufferTooLong else call

/-- A device's answer to a buffered read: the bytes where it is serviced, and the bus after it. -/
abbrev BufferRead := Host.Outcome (Option (List Byte) × Bus) Fault Refusal

/-- Bus A read of `n` bytes, of any length that fits (R72, R80, R81; log 22). -/
def workRamReadA (a : Addr) (n : Nat) (b : Bus) : BufferRead :=
  withBuffer n <|
    match busALocal a with
    | none => .fault .outOfRange
    | some l =>
      if 0x1FFFF < l + n - 1 then .fault .outOfRange
      else .next (some ((List.range n).map fun k => b.cellByte (.wram, l + k)), b)

/-- Bus B read (R72, R82, R84, R87, R88). The port is tested before the length, so an illegal port with more than one byte is a fault
(DESIGN CHOICE, log 21: R82 and R88 give no order). -/
def workRamReadB (readable nondestructive : Bool) (port : Word) (n : Nat) (b : Bus) : BufferRead :=
  withBuffer n <|
    if port < 0x2180 ∨ 0x2183 < port then .fault .outOfRange
    else if n ≠ 1 then .refused .multiBytePortAccess
    else
      let r := b.portRead readable nondestructive port
      .next (r.1.map fun v => [v], r.2)

/-- Cartridge read: each byte is translated separately, and all must be serviced (R112). -/
def cartReadN (a : Addr) (n : Nat) (b : Bus) : Option (List Byte) :=
  (List.range n).mapM fun k => (b.cartCell (a + BitVec.ofNat 24 k)).map b.cellByte

/-- A buffered read by the device an address decodes to. -/
def Bus.deviceReadN (readable nondestructive : Bool) (a : Addr) (n : Nat) (b : Bus) : BufferRead :=
  withBuffer n <|
    match getTarget a with
    | .wramA => workRamReadA a n b
    | .wramPort => workRamReadB readable nondestructive (offsetOf a) n b
    | .cart => .next (cartReadN a n b, b)
    | .ext dev =>
      .next ((Config.extRead b.extCount dev a nondestructive n).map fun v => v.toList, { b with extCount := b.extCount + 1 })
    | .unmapped => .next (none, b)

/-- `Mmu.read` with a buffer of `n` bytes (R70, R72): serviced or not, the buffer's content, and the bus after it. A buffer of more
than 4 bytes is refused (DESIGN CHOICE, log 22). A serviced read moves the latch, a nondestructive one too, as R70 says; the debug peek of
R475, which changes no state, is `State.debugPeek` (DESIGN CHOICE, log 24: the two rules disagree). -/
def mmuRead (readable nondestructive : Bool) (a : Addr) (n : Nat) (b : Bus) :
    Host.Outcome (Bool × List Byte × Bus) Fault Refusal :=
  withinTransfer n <|
    match b.deviceReadN readable nondestructive a n with
    | .next (some l, b') => .next (true, l, { b' with latch := l.getLastD b'.latch })
    | .next (none, b') => .next (false, List.replicate n b'.latch, b')
    | .fault r => .fault r
    | .refused r => .refused r

/-- The host's debug peek (R475): what a nondestructive `Mmu.read` answers, serviced or not and the bytes. It gives no state, so it
changes none: neither the latch, which R70 moves on such a read, nor the count of external accesses (DESIGN CHOICE, log 24). -/
def State.debugPeek (a : Addr) (n : Nat) (s : State) : Host.Outcome (Bool × List Byte) Fault Refusal :=
  match mmuRead s.params.wmaddReadable true a n s.bus with
  | .next (ok, l, _) => .next (ok, l)
  | .fault r => .fault r
  | .refused r => .refused r

/-- Bus A write of a buffer from a local address on (R81). -/
def workRamWriteFrom : Nat → List Byte → Bus → Bus
  | _, [], b => b
  | l, v :: rest, b => workRamWriteFrom (l + 1) rest (b.setCell (.wram, l) v)

/-- A device's answer to a buffered write: serviced or not, and the bus after it. -/
abbrev BufferWrite := Host.Outcome (Bool × Bus) Fault Refusal

/-- Bus A write, of any length that fits (R72, R80, R81; log 22). -/
def workRamWriteA (a : Addr) (buf : List Byte) (b : Bus) : BufferWrite :=
  withBuffer buf.length <|
    match busALocal a with
    | none => .fault .outOfRange
    | some l =>
      if 0x1FFFF < l + buf.length - 1 then .fault .outOfRange
      else .next (true, workRamWriteFrom l buf b)

/-- Bus B write (R72, R82, R85, R86, R88), the port tested before the length (DESIGN CHOICE, log 21). -/
def workRamWriteB (port : Word) (buf : List Byte) (b : Bus) : BufferWrite :=
  withBuffer buf.length <|
    if port < 0x2180 ∨ 0x2183 < port then .fault .outOfRange
    else
      match buf with
      | [v] => .next (true, b.portWrite port v)
      | _ => .refused .multiBytePortAccess

/-- Cartridge write of a buffer, byte by byte (R113): serviced iff every byte was. -/
def cartWriteN : Addr → List Byte → Bus → Bool × Bus
  | _, [], b => (true, b)
  | a, v :: rest, b =>
    match b.cartCell a with
    | some c =>
      let r := cartWriteN (a + 1) rest (b.setCell c v)
      (decide (c.1 ≠ .rom) && r.1, r.2)
    | none => (false, (cartWriteN (a + 1) rest b).2)

/-- A buffered write by the device an address decodes to. -/
def Bus.deviceWriteN (a : Addr) (buf : List Byte) (b : Bus) : BufferWrite :=
  withBuffer buf.length <|
    match getTarget a with
    | .wramA => workRamWriteA a buf b
    | .wramPort => workRamWriteB (offsetOf a) buf b
    | .cart => .next (cartWriteN a buf b)
    | .ext dev => .next (Config.extWriteOk b.extCount dev a buf, { b with extCount := b.extCount + 1 })
    | .unmapped => .next (false, b)

/-- `Mmu.write` with a buffer (R71, R72); more than 4 bytes are refused (DESIGN CHOICE, log 22). -/
def mmuWrite (a : Addr) (buf : List Byte) (b : Bus) : BufferWrite := withinTransfer buf.length (b.deviceWriteN a buf)

end Sys2Proof.Machine
end

