-- ==== Sys2Proof/Syntax.lean ====
section
/-! DEFINITION. The syntax of the instruction set: one constructor of `Instr` per row of spec/opcode_table.json (256 opcode
bytes), its operand fields, and the enumerations a record of the opcode table is made of (spec/30_encoding.md R130 to R138). -/

namespace Sys2Proof

/-- The operand of a width-dependent immediate, as fetched: one byte or two (R137, R138). -/
inductive Imm where
  | byte (v : Byte)
  | word (v : Word)
  deriving DecidableEq, Repr

/-- The width state that decides the length of the twelve width-dependent immediates: `is16M` and `is16X` (R30, R138). -/
structure Widths where
  m16 : Bool
  x16 : Bool
  deriving DecidableEq, Repr

/-- The mnemonics of the opcode table: the record's "Instruction enum value" (R131). -/
inductive Mnemonic where
  | adc | and | asl | bcc | bcs | beq | bit | bmi | bne | bpl | bra | brk
  | brl | bvc | bvs | clc | cld | cli | clv | cmp | cop | cpx | cpy | dec
  | dex | dey | eor | inc | inx | iny | jml | jmp | jsl | jsr | lda | ldx
  | ldy | lsr | mvn | mvp | nop | ora | pea | pei | per | pha | phb | phd
  | phk | php | phx | phy | pla | plb | pld | plp | plx | ply | rep | rol
  | ror | rti | rtl | rts | sbc | sec | sed | sei | sep | sta | stp | stx
  | sty | stz | tax | tay | tcd | tcs | tdc | trb | tsb | tsc | tsx | txa
  | txs | txy | tya | tyx | wai | wdm | xba | xce
  deriving DecidableEq, Repr

/-- The 25 addressing modes (spec/40_addressing.md R173 to R196). -/
inductive Addressing where
  | implied | accumulator | immediate | direct | directX
  | directY | directIndirect | directXIndirect | directIndirectY | directIndirectLong
  | directIndirectLongY | absolute | absoluteX | absoluteY | absoluteLong
  | absoluteLongX | absoluteIndirect | absoluteIndirectLong | absoluteXIndirect | stackRelative
  | stackRelativeIndirectY | relative | relativeLong | blockMove | stack
  deriving DecidableEq, Repr

/-- The data-dependent conditions of a FetchByte (R132): one more byte when `is16M`, when `is16X`, or always. -/
inductive FetchCond where
  | mRegZero | xRegZero | signatureByte
  deriving DecidableEq, Repr

/-- The operand byte count rule of an opcode (R132). -/
inductive FetchByte where
  | fixed (n : Nat)
  | addByteIf (cond : FetchCond) (n : Nat)
  deriving DecidableEq, Repr

/-- The nine cycle options (R151). -/
inductive CycleOption where
  | add1CycleIf16bitAccess
  | add2CycleIf16bitAccess
  | add1CycleIfDPRegNonZero
  | add1CycleIfPageBoundaryOrXRegZero
  | add1CycleIfXZero
  | add1CycleIfNativeMode
  | add1CycleIfBranchTaken
  | add1CycleIfBranchPageCrossInEmulation
  | shutdown
  deriving DecidableEq, Repr

/-- A record of the opcode table (R131). -/
structure OpRecord where
  code     : Byte
  mnemonic : Mnemonic
  mode     : Addressing
  fetch    : FetchByte
  cycles   : Nat
  options  : List CycleOption
  deriving DecidableEq, Repr

/-- The operand of an instruction in its addressing mode, with the fetched fields it carries (R135, R137). The Stack mode has no
operand byte, one (BRK, COP, PEI) or two (PEA, PER); the Implied mode has one for WDM only. -/
inductive Operand where
  | implied | impliedByte (v : Byte)
  | accumulator
  | immediate (imm : Imm)
  | direct (dp : Byte) | directX (dp : Byte) | directY (dp : Byte)
  | directIndirect (dp : Byte) | directXIndirect (dp : Byte) | directIndirectY (dp : Byte)
  | directIndirectLong (dp : Byte) | directIndirectLongY (dp : Byte)
  | absolute (addr : Word) | absoluteX (addr : Word) | absoluteY (addr : Word)
  | absoluteLong (long : Addr) | absoluteLongX (long : Addr)
  | absoluteIndirect (addr : Word) | absoluteIndirectLong (addr : Word) | absoluteXIndirect (addr : Word)
  | stackRelative (sr : Byte) | stackRelativeIndirectY (sr : Byte)
  | relative (rel : Byte) | relativeLong (rel : Word)
  | blockMove (dst : Byte) (src : Byte)
  | stack | stackByte (v : Byte) | stackWord (v : Word)
  deriving DecidableEq, Repr

/-- The instructions: one constructor per row of the opcode table, in the table's order, those with operand fields first. -/
inductive Instr where
  /-- 0x00 `BRK sig` (R384). -/
  | brk (sig : Byte)
  /-- 0x01 `ORA (dp,X)` (R256). -/
  | oraIndX (dp : Byte)
  /-- 0x02 `COP sig` (R385). -/
  | cop (sig : Byte)
  /-- 0x03 `ORA sr,S` (R256). -/
  | oraSr (sr : Byte)
  /-- 0x04 `TSB dp` (R269). -/
  | tsbDir (dp : Byte)
  /-- 0x05 `ORA dp` (R256). -/
  | oraDir (dp : Byte)
  /-- 0x06 `ASL dp` (R265). -/
  | aslDir (dp : Byte)
  /-- 0x07 `ORA [dp]` (R256). -/
  | oraIndLong (dp : Byte)
  /-- 0x09 `ORA #const` (R256). -/
  | oraImm (imm : Imm)
  /-- 0x0C `TSB addr` (R269). -/
  | tsbAbs (addr : Word)
  /-- 0x0D `ORA addr` (R256). -/
  | oraAbs (addr : Word)
  /-- 0x0E `ASL addr` (R265). -/
  | aslAbs (addr : Word)
  /-- 0x0F `ORA long` (R256). -/
  | oraLong (long : Addr)
  /-- 0x10 `BPL nearlabel` (R305). -/
  | bpl (rel : Byte)
  /-- 0x11 `ORA (dp),Y` (R256). -/
  | oraIndY (dp : Byte)
  /-- 0x12 `ORA (dp)` (R256). -/
  | oraInd (dp : Byte)
  /-- 0x13 `ORA (sr,S),Y` (R256). -/
  | oraSrIndY (sr : Byte)
  /-- 0x14 `TRB dp` (R270). -/
  | trbDir (dp : Byte)
  /-- 0x15 `ORA dp,X` (R256). -/
  | oraDirX (dp : Byte)
  /-- 0x16 `ASL dp,X` (R265). -/
  | aslDirX (dp : Byte)
  /-- 0x17 `ORA [dp],Y` (R256). -/
  | oraIndLongY (dp : Byte)
  /-- 0x19 `ORA addr,Y` (R256). -/
  | oraAbsY (addr : Word)
  /-- 0x1C `TRB addr` (R270). -/
  | trbAbs (addr : Word)
  /-- 0x1D `ORA addr,X` (R256). -/
  | oraAbsX (addr : Word)
  /-- 0x1E `ASL addr,X` (R265). -/
  | aslAbsX (addr : Word)
  /-- 0x1F `ORA long,X` (R256). -/
  | oraLongX (long : Addr)
  /-- 0x20 `JSR addr` (R312). -/
  | jsrAbs (addr : Word)
  /-- 0x21 `AND (dp,X)` (R255). -/
  | andIndX (dp : Byte)
  /-- 0x22 `JSL long` (R313). -/
  | jsl (long : Addr)
  /-- 0x23 `AND sr,S` (R255). -/
  | andSr (sr : Byte)
  /-- 0x24 `BIT dp` (R258). -/
  | bitDir (dp : Byte)
  /-- 0x25 `AND dp` (R255). -/
  | andDir (dp : Byte)
  /-- 0x26 `ROL dp` (R267). -/
  | rolDir (dp : Byte)
  /-- 0x27 `AND [dp]` (R255). -/
  | andIndLong (dp : Byte)
  /-- 0x29 `AND #const` (R255). -/
  | andImm (imm : Imm)
  /-- 0x2C `BIT addr` (R258). -/
  | bitAbs (addr : Word)
  /-- 0x2D `AND addr` (R255). -/
  | andAbs (addr : Word)
  /-- 0x2E `ROL addr` (R267). -/
  | rolAbs (addr : Word)
  /-- 0x2F `AND long` (R255). -/
  | andLong (long : Addr)
  /-- 0x30 `BMI nearlabel` (R304). -/
  | bmi (rel : Byte)
  /-- 0x31 `AND (dp),Y` (R255). -/
  | andIndY (dp : Byte)
  /-- 0x32 `AND (dp)` (R255). -/
  | andInd (dp : Byte)
  /-- 0x33 `AND (sr,S),Y` (R255). -/
  | andSrIndY (sr : Byte)
  /-- 0x34 `BIT dp,X` (R258). -/
  | bitDirX (dp : Byte)
  /-- 0x35 `AND dp,X` (R255). -/
  | andDirX (dp : Byte)
  /-- 0x36 `ROL dp,X` (R267). -/
  | rolDirX (dp : Byte)
  /-- 0x37 `AND [dp],Y` (R255). -/
  | andIndLongY (dp : Byte)
  /-- 0x39 `AND addr,Y` (R255). -/
  | andAbsY (addr : Word)
  /-- 0x3C `BIT addr,X` (R258). -/
  | bitAbsX (addr : Word)
  /-- 0x3D `AND addr,X` (R255). -/
  | andAbsX (addr : Word)
  /-- 0x3E `ROL addr,X` (R267). -/
  | rolAbsX (addr : Word)
  /-- 0x3F `AND long,X` (R255). -/
  | andLongX (long : Addr)
  /-- 0x41 `EOR (dp,X)` (R257). -/
  | eorIndX (dp : Byte)
  /-- 0x42 `WDM #const` (R383). -/
  | wdm (sig : Byte)
  /-- 0x43 `EOR sr,S` (R257). -/
  | eorSr (sr : Byte)
  /-- 0x44 `MVP srcbk,destbk` (R402). -/
  | mvp (dst : Byte) (src : Byte)
  /-- 0x45 `EOR dp` (R257). -/
  | eorDir (dp : Byte)
  /-- 0x46 `LSR dp` (R266). -/
  | lsrDir (dp : Byte)
  /-- 0x47 `EOR [dp]` (R257). -/
  | eorIndLong (dp : Byte)
  /-- 0x49 `EOR #const` (R257). -/
  | eorImm (imm : Imm)
  /-- 0x4C `JMP addr` (R310). -/
  | jmpAbs (addr : Word)
  /-- 0x4D `EOR addr` (R257). -/
  | eorAbs (addr : Word)
  /-- 0x4E `LSR addr` (R266). -/
  | lsrAbs (addr : Word)
  /-- 0x4F `EOR long` (R257). -/
  | eorLong (long : Addr)
  /-- 0x50 `BVC nearlabel` (R306). -/
  | bvc (rel : Byte)
  /-- 0x51 `EOR (dp),Y` (R257). -/
  | eorIndY (dp : Byte)
  /-- 0x52 `EOR (dp)` (R257). -/
  | eorInd (dp : Byte)
  /-- 0x53 `EOR (sr,S),Y` (R257). -/
  | eorSrIndY (sr : Byte)
  /-- 0x54 `MVN srcbk,destbk` (R401). -/
  | mvn (dst : Byte) (src : Byte)
  /-- 0x55 `EOR dp,X` (R257). -/
  | eorDirX (dp : Byte)
  /-- 0x56 `LSR dp,X` (R266). -/
  | lsrDirX (dp : Byte)
  /-- 0x57 `EOR [dp],Y` (R257). -/
  | eorIndLongY (dp : Byte)
  /-- 0x59 `EOR addr,Y` (R257). -/
  | eorAbsY (addr : Word)
  /-- 0x5C `JML long` (R311). -/
  | jmlLong (long : Addr)
  /-- 0x5D `EOR addr,X` (R257). -/
  | eorAbsX (addr : Word)
  /-- 0x5E `LSR addr,X` (R266). -/
  | lsrAbsX (addr : Word)
  /-- 0x5F `EOR long,X` (R257). -/
  | eorLongX (long : Addr)
  /-- 0x61 `ADC (dp,X)` (R250). -/
  | adcIndX (dp : Byte)
  /-- 0x62 `PER label` (R358). -/
  | per (rel : Word)
  /-- 0x63 `ADC sr,S` (R250). -/
  | adcSr (sr : Byte)
  /-- 0x64 `STZ dp` (R216). -/
  | stzDir (dp : Byte)
  /-- 0x65 `ADC dp` (R250). -/
  | adcDir (dp : Byte)
  /-- 0x66 `ROR dp` (R268). -/
  | rorDir (dp : Byte)
  /-- 0x67 `ADC [dp]` (R250). -/
  | adcIndLong (dp : Byte)
  /-- 0x69 `ADC #const` (R250). -/
  | adcImm (imm : Imm)
  /-- 0x6C `JMP (addr)` (R310). -/
  | jmpAbsInd (addr : Word)
  /-- 0x6D `ADC addr` (R250). -/
  | adcAbs (addr : Word)
  /-- 0x6E `ROR addr` (R268). -/
  | rorAbs (addr : Word)
  /-- 0x6F `ADC long` (R250). -/
  | adcLong (long : Addr)
  /-- 0x70 `BVS nearlabel` (R307). -/
  | bvs (rel : Byte)
  /-- 0x71 `ADC (dp),Y` (R250). -/
  | adcIndY (dp : Byte)
  /-- 0x72 `ADC (dp)` (R250). -/
  | adcInd (dp : Byte)
  /-- 0x73 `ADC (sr,S),Y` (R250). -/
  | adcSrIndY (sr : Byte)
  /-- 0x74 `STZ dp,X` (R216). -/
  | stzDirX (dp : Byte)
  /-- 0x75 `ADC dp,X` (R250). -/
  | adcDirX (dp : Byte)
  /-- 0x76 `ROR dp,X` (R268). -/
  | rorDirX (dp : Byte)
  /-- 0x77 `ADC [dp],Y` (R250). -/
  | adcIndLongY (dp : Byte)
  /-- 0x79 `ADC addr,Y` (R250). -/
  | adcAbsY (addr : Word)
  /-- 0x7C `JMP (addr,X)` (R310). -/
  | jmpAbsIndX (addr : Word)
  /-- 0x7D `ADC addr,X` (R250). -/
  | adcAbsX (addr : Word)
  /-- 0x7E `ROR addr,X` (R268). -/
  | rorAbsX (addr : Word)
  /-- 0x7F `ADC long,X` (R250). -/
  | adcLongX (long : Addr)
  /-- 0x80 `BRA nearlabel` (R308). -/
  | bra (rel : Byte)
  /-- 0x81 `STA (dp,X)` (R213). -/
  | staIndX (dp : Byte)
  /-- 0x82 `BRL label` (R309). -/
  | brl (rel : Word)
  /-- 0x83 `STA sr,S` (R213). -/
  | staSr (sr : Byte)
  /-- 0x84 `STY dp` (R215). -/
  | styDir (dp : Byte)
  /-- 0x85 `STA dp` (R213). -/
  | staDir (dp : Byte)
  /-- 0x86 `STX dp` (R214). -/
  | stxDir (dp : Byte)
  /-- 0x87 `STA [dp]` (R213). -/
  | staIndLong (dp : Byte)
  /-- 0x89 `BIT #const` (R258). -/
  | bitImm (imm : Imm)
  /-- 0x8C `STY addr` (R215). -/
  | styAbs (addr : Word)
  /-- 0x8D `STA addr` (R213). -/
  | staAbs (addr : Word)
  /-- 0x8E `STX addr` (R214). -/
  | stxAbs (addr : Word)
  /-- 0x8F `STA long` (R213). -/
  | staLong (long : Addr)
  /-- 0x90 `BCC nearlabel` (R300). -/
  | bcc (rel : Byte)
  /-- 0x91 `STA (dp),Y` (R213). -/
  | staIndY (dp : Byte)
  /-- 0x92 `STA (dp)` (R213). -/
  | staInd (dp : Byte)
  /-- 0x93 `STA (sr,S),Y` (R213). -/
  | staSrIndY (sr : Byte)
  /-- 0x94 `STY dp,X` (R215). -/
  | styDirX (dp : Byte)
  /-- 0x95 `STA dp,X` (R213). -/
  | staDirX (dp : Byte)
  /-- 0x96 `STX dp,Y` (R214). -/
  | stxDirY (dp : Byte)
  /-- 0x97 `STA [dp],Y` (R213). -/
  | staIndLongY (dp : Byte)
  /-- 0x99 `STA addr,Y` (R213). -/
  | staAbsY (addr : Word)
  /-- 0x9C `STZ addr` (R216). -/
  | stzAbs (addr : Word)
  /-- 0x9D `STA addr,X` (R213). -/
  | staAbsX (addr : Word)
  /-- 0x9E `STZ addr,X` (R216). -/
  | stzAbsX (addr : Word)
  /-- 0x9F `STA long,X` (R213). -/
  | staLongX (long : Addr)
  /-- 0xA0 `LDY #const` (R212). -/
  | ldyImm (imm : Imm)
  /-- 0xA1 `LDA (dp,X)` (R210). -/
  | ldaIndX (dp : Byte)
  /-- 0xA2 `LDX #const` (R211). -/
  | ldxImm (imm : Imm)
  /-- 0xA3 `LDA sr,S` (R210). -/
  | ldaSr (sr : Byte)
  /-- 0xA4 `LDY dp` (R212). -/
  | ldyDir (dp : Byte)
  /-- 0xA5 `LDA dp` (R210). -/
  | ldaDir (dp : Byte)
  /-- 0xA6 `LDX dp` (R211). -/
  | ldxDir (dp : Byte)
  /-- 0xA7 `LDA [dp]` (R210). -/
  | ldaIndLong (dp : Byte)
  /-- 0xA9 `LDA #const` (R210). -/
  | ldaImm (imm : Imm)
  /-- 0xAC `LDY addr` (R212). -/
  | ldyAbs (addr : Word)
  /-- 0xAD `LDA addr` (R210). -/
  | ldaAbs (addr : Word)
  /-- 0xAE `LDX addr` (R211). -/
  | ldxAbs (addr : Word)
  /-- 0xAF `LDA long` (R210). -/
  | ldaLong (long : Addr)
  /-- 0xB0 `BCS nearlabel` (R301). -/
  | bcs (rel : Byte)
  /-- 0xB1 `LDA (dp),Y` (R210). -/
  | ldaIndY (dp : Byte)
  /-- 0xB2 `LDA (dp)` (R210). -/
  | ldaInd (dp : Byte)
  /-- 0xB3 `LDA (sr,S),Y` (R210). -/
  | ldaSrIndY (sr : Byte)
  /-- 0xB4 `LDY dp,X` (R212). -/
  | ldyDirX (dp : Byte)
  /-- 0xB5 `LDA dp,X` (R210). -/
  | ldaDirX (dp : Byte)
  /-- 0xB6 `LDX dp,Y` (R211). -/
  | ldxDirY (dp : Byte)
  /-- 0xB7 `LDA [dp],Y` (R210). -/
  | ldaIndLongY (dp : Byte)
  /-- 0xB9 `LDA addr,Y` (R210). -/
  | ldaAbsY (addr : Word)
  /-- 0xBC `LDY addr,X` (R212). -/
  | ldyAbsX (addr : Word)
  /-- 0xBD `LDA addr,X` (R210). -/
  | ldaAbsX (addr : Word)
  /-- 0xBE `LDX addr,Y` (R211). -/
  | ldxAbsY (addr : Word)
  /-- 0xBF `LDA long,X` (R210). -/
  | ldaLongX (long : Addr)
  /-- 0xC0 `CPY #const` (R254). -/
  | cpyImm (imm : Imm)
  /-- 0xC1 `CMP (dp,X)` (R252). -/
  | cmpIndX (dp : Byte)
  /-- 0xC2 `REP #const` (R377). -/
  | rep (mask : Byte)
  /-- 0xC3 `CMP sr,S` (R252). -/
  | cmpSr (sr : Byte)
  /-- 0xC4 `CPY dp` (R254). -/
  | cpyDir (dp : Byte)
  /-- 0xC5 `CMP dp` (R252). -/
  | cmpDir (dp : Byte)
  /-- 0xC6 `DEC dp` (R262). -/
  | decDir (dp : Byte)
  /-- 0xC7 `CMP [dp]` (R252). -/
  | cmpIndLong (dp : Byte)
  /-- 0xC9 `CMP #const` (R252). -/
  | cmpImm (imm : Imm)
  /-- 0xCC `CPY addr` (R254). -/
  | cpyAbs (addr : Word)
  /-- 0xCD `CMP addr` (R252). -/
  | cmpAbs (addr : Word)
  /-- 0xCE `DEC addr` (R262). -/
  | decAbs (addr : Word)
  /-- 0xCF `CMP long` (R252). -/
  | cmpLong (long : Addr)
  /-- 0xD0 `BNE nearlabel` (R303). -/
  | bne (rel : Byte)
  /-- 0xD1 `CMP (dp),Y` (R252). -/
  | cmpIndY (dp : Byte)
  /-- 0xD2 `CMP (dp)` (R252). -/
  | cmpInd (dp : Byte)
  /-- 0xD3 `CMP (sr,S),Y` (R252). -/
  | cmpSrIndY (sr : Byte)
  /-- 0xD4 `PEI (dp)` (R357). -/
  | pei (dp : Byte)
  /-- 0xD5 `CMP dp,X` (R252). -/
  | cmpDirX (dp : Byte)
  /-- 0xD6 `DEC dp,X` (R262). -/
  | decDirX (dp : Byte)
  /-- 0xD7 `CMP [dp],Y` (R252). -/
  | cmpIndLongY (dp : Byte)
  /-- 0xD9 `CMP addr,Y` (R252). -/
  | cmpAbsY (addr : Word)
  /-- 0xDC `JML [addr]` (R311). -/
  | jmlAbsIndLong (addr : Word)
  /-- 0xDD `CMP addr,X` (R252). -/
  | cmpAbsX (addr : Word)
  /-- 0xDE `DEC addr,X` (R262). -/
  | decAbsX (addr : Word)
  /-- 0xDF `CMP long,X` (R252). -/
  | cmpLongX (long : Addr)
  /-- 0xE0 `CPX #const` (R253). -/
  | cpxImm (imm : Imm)
  /-- 0xE1 `SBC (dp,X)` (R251). -/
  | sbcIndX (dp : Byte)
  /-- 0xE2 `SEP #const` (R378). -/
  | sep (mask : Byte)
  /-- 0xE3 `SBC sr,S` (R251). -/
  | sbcSr (sr : Byte)
  /-- 0xE4 `CPX dp` (R253). -/
  | cpxDir (dp : Byte)
  /-- 0xE5 `SBC dp` (R251). -/
  | sbcDir (dp : Byte)
  /-- 0xE6 `INC dp` (R259). -/
  | incDir (dp : Byte)
  /-- 0xE7 `SBC [dp]` (R251). -/
  | sbcIndLong (dp : Byte)
  /-- 0xE9 `SBC #const` (R251). -/
  | sbcImm (imm : Imm)
  /-- 0xEC `CPX addr` (R253). -/
  | cpxAbs (addr : Word)
  /-- 0xED `SBC addr` (R251). -/
  | sbcAbs (addr : Word)
  /-- 0xEE `INC addr` (R259). -/
  | incAbs (addr : Word)
  /-- 0xEF `SBC long` (R251). -/
  | sbcLong (long : Addr)
  /-- 0xF0 `BEQ nearlabel` (R302). -/
  | beq (rel : Byte)
  /-- 0xF1 `SBC (dp),Y` (R251). -/
  | sbcIndY (dp : Byte)
  /-- 0xF2 `SBC (dp)` (R251). -/
  | sbcInd (dp : Byte)
  /-- 0xF3 `SBC (sr,S),Y` (R251). -/
  | sbcSrIndY (sr : Byte)
  /-- 0xF4 `PEA addr` (R356). -/
  | pea (addr : Word)
  /-- 0xF5 `SBC dp,X` (R251). -/
  | sbcDirX (dp : Byte)
  /-- 0xF6 `INC dp,X` (R259). -/
  | incDirX (dp : Byte)
  /-- 0xF7 `SBC [dp],Y` (R251). -/
  | sbcIndLongY (dp : Byte)
  /-- 0xF9 `SBC addr,Y` (R251). -/
  | sbcAbsY (addr : Word)
  /-- 0xFC `JSR (addr,X)` (R312). -/
  | jsrAbsIndX (addr : Word)
  /-- 0xFD `SBC addr,X` (R251). -/
  | sbcAbsX (addr : Word)
  /-- 0xFE `INC addr,X` (R259). -/
  | incAbsX (addr : Word)
  /-- 0xFF `SBC long,X` (R251). -/
  | sbcLongX (long : Addr)
  /-- 0x08 `PHP` (R346). -/
  | php
  /-- 0x0A `ASL A` (R265). -/
  | aslAcc
  /-- 0x0B `PHD` (R348). -/
  | phd
  /-- 0x18 `CLC` (R370). -/
  | clc
  /-- 0x1A `INC A` (R259). -/
  | incAcc
  /-- 0x1B `TCS` (R225). -/
  | tcs
  /-- 0x28 `PLP` (R353). -/
  | plp
  /-- 0x2A `ROL A` (R267). -/
  | rolAcc
  /-- 0x2B `PLD` (R355). -/
  | pld
  /-- 0x38 `SEC` (R374). -/
  | sec
  /-- 0x3A `DEC A` (R262). -/
  | decAcc
  /-- 0x3B `TSC` (R226). -/
  | tsc
  /-- 0x40 `RTI` (R386). -/
  | rti
  /-- 0x48 `PHA` (R343). -/
  | pha
  /-- 0x4A `LSR A` (R266). -/
  | lsrAcc
  /-- 0x4B `PHK` (R349). -/
  | phk
  /-- 0x58 `CLI` (R372). -/
  | cli
  /-- 0x5A `PHY` (R345). -/
  | phy
  /-- 0x5B `TCD` (R227). -/
  | tcd
  /-- 0x60 `RTS` (R314). -/
  | rts
  /-- 0x68 `PLA` (R350). -/
  | pla
  /-- 0x6A `ROR A` (R268). -/
  | rorAcc
  /-- 0x6B `RTL` (R315). -/
  | rtl
  /-- 0x78 `SEI` (R376). -/
  | sei
  /-- 0x7A `PLY` (R352). -/
  | ply
  /-- 0x7B `TDC` (R228). -/
  | tdc
  /-- 0x88 `DEY` (R264). -/
  | dey
  /-- 0x8A `TXA` (R219). -/
  | txa
  /-- 0x8B `PHB` (R347). -/
  | phb
  /-- 0x98 `TYA` (R220). -/
  | tya
  /-- 0x9A `TXS` (R224). -/
  | txs
  /-- 0x9B `TXY` (R221). -/
  | txy
  /-- 0xA8 `TAY` (R218). -/
  | tay
  /-- 0xAA `TAX` (R217). -/
  | tax
  /-- 0xAB `PLB` (R354). -/
  | plb
  /-- 0xB8 `CLV` (R373). -/
  | clv
  /-- 0xBA `TSX` (R223). -/
  | tsx
  /-- 0xBB `TYX` (R222). -/
  | tyx
  /-- 0xC8 `INY` (R261). -/
  | iny
  /-- 0xCA `DEX` (R263). -/
  | dex
  /-- 0xCB `WAI` (R381). -/
  | wai
  /-- 0xD8 `CLD` (R371). -/
  | cld
  /-- 0xDA `PHX` (R344). -/
  | phx
  /-- 0xDB `STP` (R382). -/
  | stp
  /-- 0xE8 `INX` (R260). -/
  | inx
  /-- 0xEA `NOP` (R380). -/
  | nop
  /-- 0xEB `XBA` (R229). -/
  | xba
  /-- 0xF8 `SED` (R375). -/
  | sed
  /-- 0xFA `PLX` (R351). -/
  | plx
  /-- 0xFB `XCE` (R379). -/
  | xce
  deriving DecidableEq, Repr

end Sys2Proof
end

