-- ==== Sys2Proof/WellFormed.lean ====
section
/-! DEFINITION. Well-formed instructions: the immediate of each of the twelve width-dependent opcodes has the width the state at
decode gives it (spec/30_encoding.md R133, R138); every other instruction is well-formed in every width state. -/

namespace Sys2Proof

/-- An immediate fits a width state: one byte in the 8-bit width, two in the 16-bit width. -/
def Imm.fits (wide : Bool) : Imm → Bool
  | .byte _ => !wide
  | .word _ => wide

/-- Well-formedness of an instruction in a width state. -/
def Instr.wellFormed (w : Widths) : Instr → Bool
  | .brk _ => true
  | .oraIndX _ => true
  | .cop _ => true
  | .oraSr _ => true
  | .tsbDir _ => true
  | .oraDir _ => true
  | .aslDir _ => true
  | .oraIndLong _ => true
  | .php => true
  | .oraImm imm => imm.fits w.m16
  | .aslAcc => true
  | .phd => true
  | .tsbAbs _ => true
  | .oraAbs _ => true
  | .aslAbs _ => true
  | .oraLong _ => true
  | .bpl _ => true
  | .oraIndY _ => true
  | .oraInd _ => true
  | .oraSrIndY _ => true
  | .trbDir _ => true
  | .oraDirX _ => true
  | .aslDirX _ => true
  | .oraIndLongY _ => true
  | .clc => true
  | .oraAbsY _ => true
  | .incAcc => true
  | .tcs => true
  | .trbAbs _ => true
  | .oraAbsX _ => true
  | .aslAbsX _ => true
  | .oraLongX _ => true
  | .jsrAbs _ => true
  | .andIndX _ => true
  | .jsl _ => true
  | .andSr _ => true
  | .bitDir _ => true
  | .andDir _ => true
  | .rolDir _ => true
  | .andIndLong _ => true
  | .plp => true
  | .andImm imm => imm.fits w.m16
  | .rolAcc => true
  | .pld => true
  | .bitAbs _ => true
  | .andAbs _ => true
  | .rolAbs _ => true
  | .andLong _ => true
  | .bmi _ => true
  | .andIndY _ => true
  | .andInd _ => true
  | .andSrIndY _ => true
  | .bitDirX _ => true
  | .andDirX _ => true
  | .rolDirX _ => true
  | .andIndLongY _ => true
  | .sec => true
  | .andAbsY _ => true
  | .decAcc => true
  | .tsc => true
  | .bitAbsX _ => true
  | .andAbsX _ => true
  | .rolAbsX _ => true
  | .andLongX _ => true
  | .rti => true
  | .eorIndX _ => true
  | .wdm _ => true
  | .eorSr _ => true
  | .mvp _ _ => true
  | .eorDir _ => true
  | .lsrDir _ => true
  | .eorIndLong _ => true
  | .pha => true
  | .eorImm imm => imm.fits w.m16
  | .lsrAcc => true
  | .phk => true
  | .jmpAbs _ => true
  | .eorAbs _ => true
  | .lsrAbs _ => true
  | .eorLong _ => true
  | .bvc _ => true
  | .eorIndY _ => true
  | .eorInd _ => true
  | .eorSrIndY _ => true
  | .mvn _ _ => true
  | .eorDirX _ => true
  | .lsrDirX _ => true
  | .eorIndLongY _ => true
  | .cli => true
  | .eorAbsY _ => true
  | .phy => true
  | .tcd => true
  | .jmlLong _ => true
  | .eorAbsX _ => true
  | .lsrAbsX _ => true
  | .eorLongX _ => true
  | .rts => true
  | .adcIndX _ => true
  | .per _ => true
  | .adcSr _ => true
  | .stzDir _ => true
  | .adcDir _ => true
  | .rorDir _ => true
  | .adcIndLong _ => true
  | .pla => true
  | .adcImm imm => imm.fits w.m16
  | .rorAcc => true
  | .rtl => true
  | .jmpAbsInd _ => true
  | .adcAbs _ => true
  | .rorAbs _ => true
  | .adcLong _ => true
  | .bvs _ => true
  | .adcIndY _ => true
  | .adcInd _ => true
  | .adcSrIndY _ => true
  | .stzDirX _ => true
  | .adcDirX _ => true
  | .rorDirX _ => true
  | .adcIndLongY _ => true
  | .sei => true
  | .adcAbsY _ => true
  | .ply => true
  | .tdc => true
  | .jmpAbsIndX _ => true
  | .adcAbsX _ => true
  | .rorAbsX _ => true
  | .adcLongX _ => true
  | .bra _ => true
  | .staIndX _ => true
  | .brl _ => true
  | .staSr _ => true
  | .styDir _ => true
  | .staDir _ => true
  | .stxDir _ => true
  | .staIndLong _ => true
  | .dey => true
  | .bitImm imm => imm.fits w.m16
  | .txa => true
  | .phb => true
  | .styAbs _ => true
  | .staAbs _ => true
  | .stxAbs _ => true
  | .staLong _ => true
  | .bcc _ => true
  | .staIndY _ => true
  | .staInd _ => true
  | .staSrIndY _ => true
  | .styDirX _ => true
  | .staDirX _ => true
  | .stxDirY _ => true
  | .staIndLongY _ => true
  | .tya => true
  | .staAbsY _ => true
  | .txs => true
  | .txy => true
  | .stzAbs _ => true
  | .staAbsX _ => true
  | .stzAbsX _ => true
  | .staLongX _ => true
  | .ldyImm imm => imm.fits w.x16
  | .ldaIndX _ => true
  | .ldxImm imm => imm.fits w.x16
  | .ldaSr _ => true
  | .ldyDir _ => true
  | .ldaDir _ => true
  | .ldxDir _ => true
  | .ldaIndLong _ => true
  | .tay => true
  | .ldaImm imm => imm.fits w.m16
  | .tax => true
  | .plb => true
  | .ldyAbs _ => true
  | .ldaAbs _ => true
  | .ldxAbs _ => true
  | .ldaLong _ => true
  | .bcs _ => true
  | .ldaIndY _ => true
  | .ldaInd _ => true
  | .ldaSrIndY _ => true
  | .ldyDirX _ => true
  | .ldaDirX _ => true
  | .ldxDirY _ => true
  | .ldaIndLongY _ => true
  | .clv => true
  | .ldaAbsY _ => true
  | .tsx => true
  | .tyx => true
  | .ldyAbsX _ => true
  | .ldaAbsX _ => true
  | .ldxAbsY _ => true
  | .ldaLongX _ => true
  | .cpyImm imm => imm.fits w.x16
  | .cmpIndX _ => true
  | .rep _ => true
  | .cmpSr _ => true
  | .cpyDir _ => true
  | .cmpDir _ => true
  | .decDir _ => true
  | .cmpIndLong _ => true
  | .iny => true
  | .cmpImm imm => imm.fits w.m16
  | .dex => true
  | .wai => true
  | .cpyAbs _ => true
  | .cmpAbs _ => true
  | .decAbs _ => true
  | .cmpLong _ => true
  | .bne _ => true
  | .cmpIndY _ => true
  | .cmpInd _ => true
  | .cmpSrIndY _ => true
  | .pei _ => true
  | .cmpDirX _ => true
  | .decDirX _ => true
  | .cmpIndLongY _ => true
  | .cld => true
  | .cmpAbsY _ => true
  | .phx => true
  | .stp => true
  | .jmlAbsIndLong _ => true
  | .cmpAbsX _ => true
  | .decAbsX _ => true
  | .cmpLongX _ => true
  | .cpxImm imm => imm.fits w.x16
  | .sbcIndX _ => true
  | .sep _ => true
  | .sbcSr _ => true
  | .cpxDir _ => true
  | .sbcDir _ => true
  | .incDir _ => true
  | .sbcIndLong _ => true
  | .inx => true
  | .sbcImm imm => imm.fits w.m16
  | .nop => true
  | .xba => true
  | .cpxAbs _ => true
  | .sbcAbs _ => true
  | .incAbs _ => true
  | .sbcLong _ => true
  | .beq _ => true
  | .sbcIndY _ => true
  | .sbcInd _ => true
  | .sbcSrIndY _ => true
  | .pea _ => true
  | .sbcDirX _ => true
  | .incDirX _ => true
  | .sbcIndLongY _ => true
  | .sed => true
  | .sbcAbsY _ => true
  | .plx => true
  | .xce => true
  | .jsrAbsIndX _ => true
  | .sbcAbsX _ => true
  | .incAbsX _ => true
  | .sbcLongX _ => true

end Sys2Proof
end

