-- ==== Sys2Proof/Decode.lean ====
section
/-! DEFINITION. The opcode table, the decoder and the encoder (spec/30_encoding.md R130 to R141, R155, R156). Every one of the 256
opcode bytes selects an instruction (R140); the only bytes the decoder refuses are a list that ends inside an instruction. -/

namespace Sys2Proof

/-! ## The opcode table (R156) -/

/-- The records of the opcodes 0x00 to 0x0F (R156). -/
def opRow0 : List OpRecord := [
  ⟨0x00, .brk, .stack, .addByteIf .signatureByte 0, 7, [.add1CycleIfNativeMode]⟩,
  ⟨0x01, .ora, .directXIndirect, .fixed 1, 6, [.add1CycleIf16bitAccess, .add1CycleIfDPRegNonZero]⟩,
  ⟨0x02, .cop, .stack, .addByteIf .signatureByte 0, 7, [.add1CycleIfNativeMode]⟩,
  ⟨0x03, .ora, .stackRelative, .fixed 1, 4, [.add1CycleIf16bitAccess]⟩,
  ⟨0x04, .tsb, .direct, .fixed 1, 5, [.add2CycleIf16bitAccess, .add1CycleIfDPRegNonZero]⟩,
  ⟨0x05, .ora, .direct, .fixed 1, 3, [.add1CycleIf16bitAccess, .add1CycleIfDPRegNonZero]⟩,
  ⟨0x06, .asl, .direct, .fixed 1, 5, [.add2CycleIf16bitAccess, .add1CycleIfDPRegNonZero]⟩,
  ⟨0x07, .ora, .directIndirectLong, .fixed 1, 6, [.add1CycleIf16bitAccess, .add1CycleIfDPRegNonZero]⟩,
  ⟨0x08, .php, .stack, .fixed 0, 3, []⟩,
  ⟨0x09, .ora, .immediate, .addByteIf .mRegZero 1, 2, [.add1CycleIf16bitAccess]⟩,
  ⟨0x0A, .asl, .accumulator, .fixed 0, 2, []⟩,
  ⟨0x0B, .phd, .stack, .fixed 0, 4, []⟩,
  ⟨0x0C, .tsb, .absolute, .fixed 2, 6, [.add2CycleIf16bitAccess]⟩,
  ⟨0x0D, .ora, .absolute, .fixed 2, 4, [.add1CycleIf16bitAccess]⟩,
  ⟨0x0E, .asl, .absolute, .fixed 2, 6, [.add2CycleIf16bitAccess]⟩,
  ⟨0x0F, .ora, .absoluteLong, .fixed 3, 5, [.add1CycleIf16bitAccess]⟩]

/-- The records of the opcodes 0x10 to 0x1F (R156). -/
def opRow1 : List OpRecord := [
  ⟨0x10, .bpl, .relative, .fixed 1, 2, [.add1CycleIfBranchTaken, .add1CycleIfBranchPageCrossInEmulation]⟩,
  ⟨0x11, .ora, .directIndirectY, .fixed 1, 5, [.add1CycleIf16bitAccess, .add1CycleIfDPRegNonZero, .add1CycleIfPageBoundaryOrXRegZero]⟩,
  ⟨0x12, .ora, .directIndirect, .fixed 1, 5, [.add1CycleIf16bitAccess, .add1CycleIfDPRegNonZero]⟩,
  ⟨0x13, .ora, .stackRelativeIndirectY, .fixed 1, 7, [.add1CycleIf16bitAccess]⟩,
  ⟨0x14, .trb, .direct, .fixed 1, 5, [.add2CycleIf16bitAccess, .add1CycleIfDPRegNonZero]⟩,
  ⟨0x15, .ora, .directX, .fixed 1, 4, [.add1CycleIf16bitAccess, .add1CycleIfDPRegNonZero]⟩,
  ⟨0x16, .asl, .directX, .fixed 1, 6, [.add2CycleIf16bitAccess, .add1CycleIfDPRegNonZero]⟩,
  ⟨0x17, .ora, .directIndirectLongY, .fixed 1, 6, [.add1CycleIf16bitAccess, .add1CycleIfDPRegNonZero]⟩,
  ⟨0x18, .clc, .implied, .fixed 0, 2, []⟩,
  ⟨0x19, .ora, .absoluteY, .fixed 2, 4, [.add1CycleIf16bitAccess, .add1CycleIfPageBoundaryOrXRegZero]⟩,
  ⟨0x1A, .inc, .accumulator, .fixed 0, 2, []⟩,
  ⟨0x1B, .tcs, .implied, .fixed 0, 2, []⟩,
  ⟨0x1C, .trb, .absolute, .fixed 2, 6, [.add2CycleIf16bitAccess]⟩,
  ⟨0x1D, .ora, .absoluteX, .fixed 2, 4, [.add1CycleIf16bitAccess, .add1CycleIfPageBoundaryOrXRegZero]⟩,
  ⟨0x1E, .asl, .absoluteX, .fixed 2, 7, [.add2CycleIf16bitAccess]⟩,
  ⟨0x1F, .ora, .absoluteLongX, .fixed 3, 5, [.add1CycleIf16bitAccess]⟩]

/-- The records of the opcodes 0x20 to 0x2F (R156). -/
def opRow2 : List OpRecord := [
  ⟨0x20, .jsr, .absolute, .fixed 2, 6, []⟩,
  ⟨0x21, .and, .directXIndirect, .fixed 1, 6, [.add1CycleIf16bitAccess, .add1CycleIfDPRegNonZero]⟩,
  ⟨0x22, .jsl, .absoluteLong, .fixed 3, 8, []⟩,
  ⟨0x23, .and, .stackRelative, .fixed 1, 4, [.add1CycleIf16bitAccess]⟩,
  ⟨0x24, .bit, .direct, .fixed 1, 3, [.add1CycleIf16bitAccess, .add1CycleIfDPRegNonZero]⟩,
  ⟨0x25, .and, .direct, .fixed 1, 3, [.add1CycleIf16bitAccess, .add1CycleIfDPRegNonZero]⟩,
  ⟨0x26, .rol, .direct, .fixed 1, 5, [.add2CycleIf16bitAccess, .add1CycleIfDPRegNonZero]⟩,
  ⟨0x27, .and, .directIndirectLong, .fixed 1, 6, [.add1CycleIf16bitAccess, .add1CycleIfDPRegNonZero]⟩,
  ⟨0x28, .plp, .stack, .fixed 0, 4, []⟩,
  ⟨0x29, .and, .immediate, .addByteIf .mRegZero 1, 2, [.add1CycleIf16bitAccess]⟩,
  ⟨0x2A, .rol, .accumulator, .fixed 0, 2, []⟩,
  ⟨0x2B, .pld, .stack, .fixed 0, 5, []⟩,
  ⟨0x2C, .bit, .absolute, .fixed 2, 4, [.add1CycleIf16bitAccess]⟩,
  ⟨0x2D, .and, .absolute, .fixed 2, 4, [.add1CycleIf16bitAccess]⟩,
  ⟨0x2E, .rol, .absolute, .fixed 2, 6, [.add2CycleIf16bitAccess]⟩,
  ⟨0x2F, .and, .absoluteLong, .fixed 3, 5, [.add1CycleIf16bitAccess]⟩]

/-- The records of the opcodes 0x30 to 0x3F (R156). -/
def opRow3 : List OpRecord := [
  ⟨0x30, .bmi, .relative, .fixed 1, 2, [.add1CycleIfBranchTaken, .add1CycleIfBranchPageCrossInEmulation]⟩,
  ⟨0x31, .and, .directIndirectY, .fixed 1, 5, [.add1CycleIf16bitAccess, .add1CycleIfDPRegNonZero, .add1CycleIfPageBoundaryOrXRegZero]⟩,
  ⟨0x32, .and, .directIndirect, .fixed 1, 5, [.add1CycleIf16bitAccess, .add1CycleIfDPRegNonZero]⟩,
  ⟨0x33, .and, .stackRelativeIndirectY, .fixed 1, 7, [.add1CycleIf16bitAccess]⟩,
  ⟨0x34, .bit, .directX, .fixed 1, 4, [.add1CycleIf16bitAccess, .add1CycleIfDPRegNonZero]⟩,
  ⟨0x35, .and, .directX, .fixed 1, 4, [.add1CycleIf16bitAccess, .add1CycleIfDPRegNonZero]⟩,
  ⟨0x36, .rol, .directX, .fixed 1, 6, [.add2CycleIf16bitAccess, .add1CycleIfDPRegNonZero]⟩,
  ⟨0x37, .and, .directIndirectLongY, .fixed 1, 6, [.add1CycleIf16bitAccess, .add1CycleIfDPRegNonZero]⟩,
  ⟨0x38, .sec, .implied, .fixed 0, 2, []⟩,
  ⟨0x39, .and, .absoluteY, .fixed 2, 4, [.add1CycleIf16bitAccess, .add1CycleIfPageBoundaryOrXRegZero]⟩,
  ⟨0x3A, .dec, .accumulator, .fixed 0, 2, []⟩,
  ⟨0x3B, .tsc, .implied, .fixed 0, 2, []⟩,
  ⟨0x3C, .bit, .absoluteX, .fixed 2, 4, [.add1CycleIf16bitAccess, .add1CycleIfPageBoundaryOrXRegZero]⟩,
  ⟨0x3D, .and, .absoluteX, .fixed 2, 4, [.add1CycleIf16bitAccess, .add1CycleIfPageBoundaryOrXRegZero]⟩,
  ⟨0x3E, .rol, .absoluteX, .fixed 2, 7, [.add2CycleIf16bitAccess]⟩,
  ⟨0x3F, .and, .absoluteLongX, .fixed 3, 5, [.add1CycleIf16bitAccess]⟩]

/-- The records of the opcodes 0x40 to 0x4F (R156). -/
def opRow4 : List OpRecord := [
  ⟨0x40, .rti, .stack, .fixed 0, 6, [.add1CycleIfNativeMode]⟩,
  ⟨0x41, .eor, .directXIndirect, .fixed 1, 6, [.add1CycleIf16bitAccess, .add1CycleIfDPRegNonZero]⟩,
  ⟨0x42, .wdm, .implied, .fixed 1, 2, []⟩,
  ⟨0x43, .eor, .stackRelative, .fixed 1, 4, [.add1CycleIf16bitAccess]⟩,
  ⟨0x44, .mvp, .blockMove, .fixed 2, 7, []⟩,
  ⟨0x45, .eor, .direct, .fixed 1, 3, [.add1CycleIf16bitAccess, .add1CycleIfDPRegNonZero]⟩,
  ⟨0x46, .lsr, .direct, .fixed 1, 5, [.add2CycleIf16bitAccess, .add1CycleIfDPRegNonZero]⟩,
  ⟨0x47, .eor, .directIndirectLong, .fixed 1, 6, [.add1CycleIf16bitAccess, .add1CycleIfDPRegNonZero]⟩,
  ⟨0x48, .pha, .stack, .fixed 0, 3, [.add1CycleIf16bitAccess]⟩,
  ⟨0x49, .eor, .immediate, .addByteIf .mRegZero 1, 2, [.add1CycleIf16bitAccess]⟩,
  ⟨0x4A, .lsr, .accumulator, .fixed 0, 2, []⟩,
  ⟨0x4B, .phk, .stack, .fixed 0, 3, []⟩,
  ⟨0x4C, .jmp, .absolute, .fixed 2, 3, []⟩,
  ⟨0x4D, .eor, .absolute, .fixed 2, 4, [.add1CycleIf16bitAccess]⟩,
  ⟨0x4E, .lsr, .absolute, .fixed 2, 6, [.add2CycleIf16bitAccess]⟩,
  ⟨0x4F, .eor, .absoluteLong, .fixed 3, 5, [.add1CycleIf16bitAccess]⟩]

/-- The records of the opcodes 0x50 to 0x5F (R156). -/
def opRow5 : List OpRecord := [
  ⟨0x50, .bvc, .relative, .fixed 1, 2, [.add1CycleIfBranchTaken, .add1CycleIfBranchPageCrossInEmulation]⟩,
  ⟨0x51, .eor, .directIndirectY, .fixed 1, 5, [.add1CycleIf16bitAccess, .add1CycleIfDPRegNonZero, .add1CycleIfPageBoundaryOrXRegZero]⟩,
  ⟨0x52, .eor, .directIndirect, .fixed 1, 5, [.add1CycleIf16bitAccess, .add1CycleIfDPRegNonZero]⟩,
  ⟨0x53, .eor, .stackRelativeIndirectY, .fixed 1, 7, [.add1CycleIf16bitAccess]⟩,
  ⟨0x54, .mvn, .blockMove, .fixed 2, 7, []⟩,
  ⟨0x55, .eor, .directX, .fixed 1, 4, [.add1CycleIf16bitAccess, .add1CycleIfDPRegNonZero]⟩,
  ⟨0x56, .lsr, .directX, .fixed 1, 6, [.add2CycleIf16bitAccess, .add1CycleIfDPRegNonZero]⟩,
  ⟨0x57, .eor, .directIndirectLongY, .fixed 1, 6, [.add1CycleIf16bitAccess, .add1CycleIfDPRegNonZero]⟩,
  ⟨0x58, .cli, .implied, .fixed 0, 2, []⟩,
  ⟨0x59, .eor, .absoluteY, .fixed 2, 4, [.add1CycleIf16bitAccess, .add1CycleIfPageBoundaryOrXRegZero]⟩,
  ⟨0x5A, .phy, .stack, .fixed 0, 3, [.add1CycleIfXZero]⟩,
  ⟨0x5B, .tcd, .implied, .fixed 0, 2, []⟩,
  ⟨0x5C, .jml, .absoluteLong, .fixed 3, 4, []⟩,
  ⟨0x5D, .eor, .absoluteX, .fixed 2, 4, [.add1CycleIf16bitAccess, .add1CycleIfPageBoundaryOrXRegZero]⟩,
  ⟨0x5E, .lsr, .absoluteX, .fixed 2, 7, [.add2CycleIf16bitAccess]⟩,
  ⟨0x5F, .eor, .absoluteLongX, .fixed 3, 5, [.add1CycleIf16bitAccess]⟩]

/-- The records of the opcodes 0x60 to 0x6F (R156). -/
def opRow6 : List OpRecord := [
  ⟨0x60, .rts, .stack, .fixed 0, 6, []⟩,
  ⟨0x61, .adc, .directXIndirect, .fixed 1, 6, [.add1CycleIf16bitAccess, .add1CycleIfDPRegNonZero]⟩,
  ⟨0x62, .per, .stack, .fixed 2, 6, []⟩,
  ⟨0x63, .adc, .stackRelative, .fixed 1, 4, [.add1CycleIf16bitAccess]⟩,
  ⟨0x64, .stz, .direct, .fixed 1, 3, [.add1CycleIf16bitAccess, .add1CycleIfDPRegNonZero]⟩,
  ⟨0x65, .adc, .direct, .fixed 1, 3, [.add1CycleIf16bitAccess, .add1CycleIfDPRegNonZero]⟩,
  ⟨0x66, .ror, .direct, .fixed 1, 5, [.add2CycleIf16bitAccess, .add1CycleIfDPRegNonZero]⟩,
  ⟨0x67, .adc, .directIndirectLong, .fixed 1, 6, [.add1CycleIf16bitAccess, .add1CycleIfDPRegNonZero]⟩,
  ⟨0x68, .pla, .stack, .fixed 0, 4, [.add1CycleIf16bitAccess]⟩,
  ⟨0x69, .adc, .immediate, .addByteIf .mRegZero 1, 2, [.add1CycleIf16bitAccess]⟩,
  ⟨0x6A, .ror, .accumulator, .fixed 0, 2, []⟩,
  ⟨0x6B, .rtl, .stack, .fixed 0, 6, []⟩,
  ⟨0x6C, .jmp, .absoluteIndirect, .fixed 2, 5, []⟩,
  ⟨0x6D, .adc, .absolute, .fixed 2, 4, [.add1CycleIf16bitAccess]⟩,
  ⟨0x6E, .ror, .absolute, .fixed 2, 6, [.add2CycleIf16bitAccess]⟩,
  ⟨0x6F, .adc, .absoluteLong, .fixed 3, 5, [.add1CycleIf16bitAccess]⟩]

/-- The records of the opcodes 0x70 to 0x7F (R156). -/
def opRow7 : List OpRecord := [
  ⟨0x70, .bvs, .relative, .fixed 1, 2, [.add1CycleIfBranchTaken, .add1CycleIfBranchPageCrossInEmulation]⟩,
  ⟨0x71, .adc, .directIndirectY, .fixed 1, 5, [.add1CycleIf16bitAccess, .add1CycleIfDPRegNonZero, .add1CycleIfPageBoundaryOrXRegZero]⟩,
  ⟨0x72, .adc, .directIndirect, .fixed 1, 5, [.add1CycleIf16bitAccess, .add1CycleIfDPRegNonZero]⟩,
  ⟨0x73, .adc, .stackRelativeIndirectY, .fixed 1, 7, [.add1CycleIf16bitAccess]⟩,
  ⟨0x74, .stz, .directX, .fixed 1, 4, [.add1CycleIf16bitAccess, .add1CycleIfDPRegNonZero]⟩,
  ⟨0x75, .adc, .directX, .fixed 1, 4, [.add1CycleIf16bitAccess, .add1CycleIfDPRegNonZero]⟩,
  ⟨0x76, .ror, .directX, .fixed 1, 6, [.add2CycleIf16bitAccess, .add1CycleIfDPRegNonZero]⟩,
  ⟨0x77, .adc, .directIndirectLongY, .fixed 1, 6, [.add1CycleIf16bitAccess, .add1CycleIfDPRegNonZero]⟩,
  ⟨0x78, .sei, .implied, .fixed 0, 2, []⟩,
  ⟨0x79, .adc, .absoluteY, .fixed 2, 4, [.add1CycleIf16bitAccess, .add1CycleIfPageBoundaryOrXRegZero]⟩,
  ⟨0x7A, .ply, .stack, .fixed 0, 4, [.add1CycleIfXZero]⟩,
  ⟨0x7B, .tdc, .implied, .fixed 0, 2, []⟩,
  ⟨0x7C, .jmp, .absoluteXIndirect, .fixed 2, 6, []⟩,
  ⟨0x7D, .adc, .absoluteX, .fixed 2, 4, [.add1CycleIf16bitAccess, .add1CycleIfPageBoundaryOrXRegZero]⟩,
  ⟨0x7E, .ror, .absoluteX, .fixed 2, 7, [.add2CycleIf16bitAccess]⟩,
  ⟨0x7F, .adc, .absoluteLongX, .fixed 3, 5, [.add1CycleIf16bitAccess]⟩]

/-- The records of the opcodes 0x80 to 0x8F (R156). -/
def opRow8 : List OpRecord := [
  ⟨0x80, .bra, .relative, .fixed 1, 3, [.add1CycleIfBranchPageCrossInEmulation]⟩,
  ⟨0x81, .sta, .directXIndirect, .fixed 1, 6, [.add1CycleIf16bitAccess, .add1CycleIfDPRegNonZero]⟩,
  ⟨0x82, .brl, .relativeLong, .fixed 2, 4, []⟩,
  ⟨0x83, .sta, .stackRelative, .fixed 1, 4, [.add1CycleIf16bitAccess]⟩,
  ⟨0x84, .sty, .direct, .fixed 1, 3, [.add1CycleIfXZero, .add1CycleIfDPRegNonZero]⟩,
  ⟨0x85, .sta, .direct, .fixed 1, 3, [.add1CycleIf16bitAccess, .add1CycleIfDPRegNonZero]⟩,
  ⟨0x86, .stx, .direct, .fixed 1, 3, [.add1CycleIfXZero, .add1CycleIfDPRegNonZero]⟩,
  ⟨0x87, .sta, .directIndirectLong, .fixed 1, 6, [.add1CycleIf16bitAccess, .add1CycleIfDPRegNonZero]⟩,
  ⟨0x88, .dey, .implied, .fixed 0, 2, []⟩,
  ⟨0x89, .bit, .immediate, .addByteIf .mRegZero 1, 2, [.add1CycleIf16bitAccess]⟩,
  ⟨0x8A, .txa, .implied, .fixed 0, 2, []⟩,
  ⟨0x8B, .phb, .stack, .fixed 0, 3, []⟩,
  ⟨0x8C, .sty, .absolute, .fixed 2, 4, [.add1CycleIfXZero]⟩,
  ⟨0x8D, .sta, .absolute, .fixed 2, 4, [.add1CycleIf16bitAccess]⟩,
  ⟨0x8E, .stx, .absolute, .fixed 2, 4, [.add1CycleIfXZero]⟩,
  ⟨0x8F, .sta, .absoluteLong, .fixed 3, 5, [.add1CycleIf16bitAccess]⟩]

/-- The records of the opcodes 0x90 to 0x9F (R156). -/
def opRow9 : List OpRecord := [
  ⟨0x90, .bcc, .relative, .fixed 1, 2, [.add1CycleIfBranchTaken, .add1CycleIfBranchPageCrossInEmulation]⟩,
  ⟨0x91, .sta, .directIndirectY, .fixed 1, 6, [.add1CycleIf16bitAccess, .add1CycleIfDPRegNonZero]⟩,
  ⟨0x92, .sta, .directIndirect, .fixed 1, 5, [.add1CycleIf16bitAccess, .add1CycleIfDPRegNonZero]⟩,
  ⟨0x93, .sta, .stackRelativeIndirectY, .fixed 1, 7, [.add1CycleIf16bitAccess]⟩,
  ⟨0x94, .sty, .directX, .fixed 1, 4, [.add1CycleIfXZero, .add1CycleIfDPRegNonZero]⟩,
  ⟨0x95, .sta, .directX, .fixed 1, 4, [.add1CycleIf16bitAccess, .add1CycleIfDPRegNonZero]⟩,
  ⟨0x96, .stx, .directY, .fixed 1, 4, [.add1CycleIfXZero, .add1CycleIfDPRegNonZero]⟩,
  ⟨0x97, .sta, .directIndirectLongY, .fixed 1, 6, [.add1CycleIf16bitAccess, .add1CycleIfDPRegNonZero]⟩,
  ⟨0x98, .tya, .implied, .fixed 0, 2, []⟩,
  ⟨0x99, .sta, .absoluteY, .fixed 2, 5, [.add1CycleIf16bitAccess]⟩,
  ⟨0x9A, .txs, .implied, .fixed 0, 2, []⟩,
  ⟨0x9B, .txy, .implied, .fixed 0, 2, []⟩,
  ⟨0x9C, .stz, .absolute, .fixed 2, 4, [.add1CycleIf16bitAccess]⟩,
  ⟨0x9D, .sta, .absoluteX, .fixed 2, 5, [.add1CycleIf16bitAccess]⟩,
  ⟨0x9E, .stz, .absoluteX, .fixed 2, 5, [.add1CycleIf16bitAccess]⟩,
  ⟨0x9F, .sta, .absoluteLongX, .fixed 3, 5, [.add1CycleIf16bitAccess]⟩]

/-- The records of the opcodes 0xA0 to 0xAF (R156). -/
def opRowA : List OpRecord := [
  ⟨0xA0, .ldy, .immediate, .addByteIf .xRegZero 1, 2, [.add1CycleIfXZero]⟩,
  ⟨0xA1, .lda, .directXIndirect, .fixed 1, 6, [.add1CycleIf16bitAccess, .add1CycleIfDPRegNonZero]⟩,
  ⟨0xA2, .ldx, .immediate, .addByteIf .xRegZero 1, 2, [.add1CycleIfXZero]⟩,
  ⟨0xA3, .lda, .stackRelative, .fixed 1, 4, [.add1CycleIf16bitAccess]⟩,
  ⟨0xA4, .ldy, .direct, .fixed 1, 3, [.add1CycleIfXZero, .add1CycleIfDPRegNonZero]⟩,
  ⟨0xA5, .lda, .direct, .fixed 1, 3, [.add1CycleIf16bitAccess, .add1CycleIfDPRegNonZero]⟩,
  ⟨0xA6, .ldx, .direct, .fixed 1, 3, [.add1CycleIfXZero, .add1CycleIfDPRegNonZero]⟩,
  ⟨0xA7, .lda, .directIndirectLong, .fixed 1, 6, [.add1CycleIf16bitAccess, .add1CycleIfDPRegNonZero]⟩,
  ⟨0xA8, .tay, .implied, .fixed 0, 2, []⟩,
  ⟨0xA9, .lda, .immediate, .addByteIf .mRegZero 1, 2, [.add1CycleIf16bitAccess]⟩,
  ⟨0xAA, .tax, .implied, .fixed 0, 2, []⟩,
  ⟨0xAB, .plb, .stack, .fixed 0, 4, []⟩,
  ⟨0xAC, .ldy, .absolute, .fixed 2, 4, [.add1CycleIfXZero]⟩,
  ⟨0xAD, .lda, .absolute, .fixed 2, 4, [.add1CycleIf16bitAccess]⟩,
  ⟨0xAE, .ldx, .absolute, .fixed 2, 4, [.add1CycleIfXZero]⟩,
  ⟨0xAF, .lda, .absoluteLong, .fixed 3, 5, [.add1CycleIf16bitAccess]⟩]

/-- The records of the opcodes 0xB0 to 0xBF (R156). -/
def opRowB : List OpRecord := [
  ⟨0xB0, .bcs, .relative, .fixed 1, 2, [.add1CycleIfBranchTaken, .add1CycleIfBranchPageCrossInEmulation]⟩,
  ⟨0xB1, .lda, .directIndirectY, .fixed 1, 5, [.add1CycleIf16bitAccess, .add1CycleIfDPRegNonZero, .add1CycleIfPageBoundaryOrXRegZero]⟩,
  ⟨0xB2, .lda, .directIndirect, .fixed 1, 5, [.add1CycleIf16bitAccess, .add1CycleIfDPRegNonZero]⟩,
  ⟨0xB3, .lda, .stackRelativeIndirectY, .fixed 1, 7, [.add1CycleIf16bitAccess]⟩,
  ⟨0xB4, .ldy, .directX, .fixed 1, 4, [.add1CycleIfXZero, .add1CycleIfDPRegNonZero]⟩,
  ⟨0xB5, .lda, .directX, .fixed 1, 4, [.add1CycleIf16bitAccess, .add1CycleIfDPRegNonZero]⟩,
  ⟨0xB6, .ldx, .directY, .fixed 1, 4, [.add1CycleIfXZero, .add1CycleIfDPRegNonZero]⟩,
  ⟨0xB7, .lda, .directIndirectLongY, .fixed 1, 6, [.add1CycleIf16bitAccess, .add1CycleIfDPRegNonZero]⟩,
  ⟨0xB8, .clv, .implied, .fixed 0, 2, []⟩,
  ⟨0xB9, .lda, .absoluteY, .fixed 2, 4, [.add1CycleIf16bitAccess, .add1CycleIfPageBoundaryOrXRegZero]⟩,
  ⟨0xBA, .tsx, .implied, .fixed 0, 2, []⟩,
  ⟨0xBB, .tyx, .implied, .fixed 0, 2, []⟩,
  ⟨0xBC, .ldy, .absoluteX, .fixed 2, 4, [.add1CycleIfXZero, .add1CycleIfPageBoundaryOrXRegZero]⟩,
  ⟨0xBD, .lda, .absoluteX, .fixed 2, 4, [.add1CycleIf16bitAccess, .add1CycleIfPageBoundaryOrXRegZero]⟩,
  ⟨0xBE, .ldx, .absoluteY, .fixed 2, 4, [.add1CycleIfXZero, .add1CycleIfPageBoundaryOrXRegZero]⟩,
  ⟨0xBF, .lda, .absoluteLongX, .fixed 3, 5, [.add1CycleIf16bitAccess]⟩]

/-- The records of the opcodes 0xC0 to 0xCF (R156). -/
def opRowC : List OpRecord := [
  ⟨0xC0, .cpy, .immediate, .addByteIf .xRegZero 1, 2, [.add1CycleIfXZero]⟩,
  ⟨0xC1, .cmp, .directXIndirect, .fixed 1, 6, [.add1CycleIf16bitAccess, .add1CycleIfDPRegNonZero]⟩,
  ⟨0xC2, .rep, .immediate, .fixed 1, 3, []⟩,
  ⟨0xC3, .cmp, .stackRelative, .fixed 1, 4, [.add1CycleIf16bitAccess]⟩,
  ⟨0xC4, .cpy, .direct, .fixed 1, 3, [.add1CycleIfXZero, .add1CycleIfDPRegNonZero]⟩,
  ⟨0xC5, .cmp, .direct, .fixed 1, 3, [.add1CycleIf16bitAccess, .add1CycleIfDPRegNonZero]⟩,
  ⟨0xC6, .dec, .direct, .fixed 1, 5, [.add2CycleIf16bitAccess, .add1CycleIfDPRegNonZero]⟩,
  ⟨0xC7, .cmp, .directIndirectLong, .fixed 1, 6, [.add1CycleIf16bitAccess, .add1CycleIfDPRegNonZero]⟩,
  ⟨0xC8, .iny, .implied, .fixed 0, 2, []⟩,
  ⟨0xC9, .cmp, .immediate, .addByteIf .mRegZero 1, 2, [.add1CycleIf16bitAccess]⟩,
  ⟨0xCA, .dex, .implied, .fixed 0, 2, []⟩,
  ⟨0xCB, .wai, .implied, .fixed 0, 3, [.shutdown]⟩,
  ⟨0xCC, .cpy, .absolute, .fixed 2, 4, [.add1CycleIfXZero]⟩,
  ⟨0xCD, .cmp, .absolute, .fixed 2, 4, [.add1CycleIf16bitAccess]⟩,
  ⟨0xCE, .dec, .absolute, .fixed 2, 6, [.add2CycleIf16bitAccess]⟩,
  ⟨0xCF, .cmp, .absoluteLong, .fixed 3, 5, [.add1CycleIf16bitAccess]⟩]

/-- The records of the opcodes 0xD0 to 0xDF (R156). -/
def opRowD : List OpRecord := [
  ⟨0xD0, .bne, .relative, .fixed 1, 2, [.add1CycleIfBranchTaken, .add1CycleIfBranchPageCrossInEmulation]⟩,
  ⟨0xD1, .cmp, .directIndirectY, .fixed 1, 5, [.add1CycleIf16bitAccess, .add1CycleIfDPRegNonZero, .add1CycleIfPageBoundaryOrXRegZero]⟩,
  ⟨0xD2, .cmp, .directIndirect, .fixed 1, 5, [.add1CycleIf16bitAccess, .add1CycleIfDPRegNonZero]⟩,
  ⟨0xD3, .cmp, .stackRelativeIndirectY, .fixed 1, 7, [.add1CycleIf16bitAccess]⟩,
  ⟨0xD4, .pei, .stack, .fixed 1, 6, [.add1CycleIfDPRegNonZero]⟩,
  ⟨0xD5, .cmp, .directX, .fixed 1, 4, [.add1CycleIf16bitAccess, .add1CycleIfDPRegNonZero]⟩,
  ⟨0xD6, .dec, .directX, .fixed 1, 6, [.add2CycleIf16bitAccess, .add1CycleIfDPRegNonZero]⟩,
  ⟨0xD7, .cmp, .directIndirectLongY, .fixed 1, 6, [.add1CycleIf16bitAccess, .add1CycleIfDPRegNonZero]⟩,
  ⟨0xD8, .cld, .implied, .fixed 0, 2, []⟩,
  ⟨0xD9, .cmp, .absoluteY, .fixed 2, 4, [.add1CycleIf16bitAccess, .add1CycleIfPageBoundaryOrXRegZero]⟩,
  ⟨0xDA, .phx, .stack, .fixed 0, 3, [.add1CycleIfXZero]⟩,
  ⟨0xDB, .stp, .implied, .fixed 0, 3, [.shutdown]⟩,
  ⟨0xDC, .jml, .absoluteIndirectLong, .fixed 2, 6, []⟩,
  ⟨0xDD, .cmp, .absoluteX, .fixed 2, 4, [.add1CycleIf16bitAccess, .add1CycleIfPageBoundaryOrXRegZero]⟩,
  ⟨0xDE, .dec, .absoluteX, .fixed 2, 7, [.add2CycleIf16bitAccess]⟩,
  ⟨0xDF, .cmp, .absoluteLongX, .fixed 3, 5, [.add1CycleIf16bitAccess]⟩]

/-- The records of the opcodes 0xE0 to 0xEF (R156). -/
def opRowE : List OpRecord := [
  ⟨0xE0, .cpx, .immediate, .addByteIf .xRegZero 1, 2, [.add1CycleIfXZero]⟩,
  ⟨0xE1, .sbc, .directXIndirect, .fixed 1, 6, [.add1CycleIf16bitAccess, .add1CycleIfDPRegNonZero]⟩,
  ⟨0xE2, .sep, .immediate, .fixed 1, 3, []⟩,
  ⟨0xE3, .sbc, .stackRelative, .fixed 1, 4, [.add1CycleIf16bitAccess]⟩,
  ⟨0xE4, .cpx, .direct, .fixed 1, 3, [.add1CycleIfXZero, .add1CycleIfDPRegNonZero]⟩,
  ⟨0xE5, .sbc, .direct, .fixed 1, 3, [.add1CycleIf16bitAccess, .add1CycleIfDPRegNonZero]⟩,
  ⟨0xE6, .inc, .direct, .fixed 1, 5, [.add2CycleIf16bitAccess, .add1CycleIfDPRegNonZero]⟩,
  ⟨0xE7, .sbc, .directIndirectLong, .fixed 1, 6, [.add1CycleIf16bitAccess, .add1CycleIfDPRegNonZero]⟩,
  ⟨0xE8, .inx, .implied, .fixed 0, 2, []⟩,
  ⟨0xE9, .sbc, .immediate, .addByteIf .mRegZero 1, 2, [.add1CycleIf16bitAccess]⟩,
  ⟨0xEA, .nop, .implied, .fixed 0, 2, []⟩,
  ⟨0xEB, .xba, .implied, .fixed 0, 3, []⟩,
  ⟨0xEC, .cpx, .absolute, .fixed 2, 4, [.add1CycleIfXZero]⟩,
  ⟨0xED, .sbc, .absolute, .fixed 2, 4, [.add1CycleIf16bitAccess]⟩,
  ⟨0xEE, .inc, .absolute, .fixed 2, 6, [.add2CycleIf16bitAccess]⟩,
  ⟨0xEF, .sbc, .absoluteLong, .fixed 3, 5, [.add1CycleIf16bitAccess]⟩]

/-- The records of the opcodes 0xF0 to 0xFF (R156). -/
def opRowF : List OpRecord := [
  ⟨0xF0, .beq, .relative, .fixed 1, 2, [.add1CycleIfBranchTaken, .add1CycleIfBranchPageCrossInEmulation]⟩,
  ⟨0xF1, .sbc, .directIndirectY, .fixed 1, 5, [.add1CycleIf16bitAccess, .add1CycleIfDPRegNonZero, .add1CycleIfPageBoundaryOrXRegZero]⟩,
  ⟨0xF2, .sbc, .directIndirect, .fixed 1, 5, [.add1CycleIf16bitAccess, .add1CycleIfDPRegNonZero]⟩,
  ⟨0xF3, .sbc, .stackRelativeIndirectY, .fixed 1, 7, [.add1CycleIf16bitAccess]⟩,
  ⟨0xF4, .pea, .stack, .fixed 2, 5, []⟩,
  ⟨0xF5, .sbc, .directX, .fixed 1, 4, [.add1CycleIf16bitAccess, .add1CycleIfDPRegNonZero]⟩,
  ⟨0xF6, .inc, .directX, .fixed 1, 6, [.add2CycleIf16bitAccess, .add1CycleIfDPRegNonZero]⟩,
  ⟨0xF7, .sbc, .directIndirectLongY, .fixed 1, 6, [.add1CycleIf16bitAccess, .add1CycleIfDPRegNonZero]⟩,
  ⟨0xF8, .sed, .implied, .fixed 0, 2, []⟩,
  ⟨0xF9, .sbc, .absoluteY, .fixed 2, 4, [.add1CycleIf16bitAccess, .add1CycleIfPageBoundaryOrXRegZero]⟩,
  ⟨0xFA, .plx, .stack, .fixed 0, 4, [.add1CycleIfXZero]⟩,
  ⟨0xFB, .xce, .implied, .fixed 0, 2, []⟩,
  ⟨0xFC, .jsr, .absoluteXIndirect, .fixed 2, 8, []⟩,
  ⟨0xFD, .sbc, .absoluteX, .fixed 2, 4, [.add1CycleIf16bitAccess, .add1CycleIfPageBoundaryOrXRegZero]⟩,
  ⟨0xFE, .inc, .absoluteX, .fixed 2, 7, [.add2CycleIf16bitAccess]⟩,
  ⟨0xFF, .sbc, .absoluteLongX, .fixed 3, 5, [.add1CycleIf16bitAccess]⟩]

/-- The opcode table by high nibble (R155). -/
def opRows : List (List OpRecord) := [
  opRow0, opRow1, opRow2, opRow3, opRow4, opRow5, opRow6, opRow7,
  opRow8, opRow9, opRowA, opRowB, opRowC, opRowD, opRowE, opRowF]

/-- The record of an opcode byte: the decoder indexes the 256-entry table with the whole byte (R130, R131). The default is never
reached (all 256 records are present). -/
def opRecord (code : Byte) : OpRecord :=
  (opRows.getD (code.toNat / 16) []).getD (code.toNat % 16) ⟨code, .nop, .implied, .fixed 0, 2, []⟩

/-- `FetchByte.total_bytes` (R133): the operand byte count in a width state. -/
def FetchByte.totalBytes (w : Widths) : FetchByte → Nat
  | .fixed n => n
  | .addByteIf .mRegZero n => n + if w.m16 then 1 else 0
  | .addByteIf .xRegZero n => n + if w.x16 then 1 else 0
  | .addByteIf .signatureByte n => n + 1

/-- The operand byte count of an opcode in a width state (R133). -/
def operandBytes (w : Widths) (code : Byte) : Nat :=
  (opRecord code).fetch.totalBytes w

/-- `OpCode.total_fetch_bytes`: the instruction's length in bytes (R130, R134). -/
def totalFetchBytes (w : Widths) (code : Byte) : Nat :=
  1 + operandBytes w code

/-! ## Operand assembly (R137) -/

/-- The first operand byte. -/
def op8 (l : List Byte) : Byte := l.getD 0 0

/-- The second operand byte. -/
def op8' (l : List Byte) : Byte := l.getD 1 0

/-- Two operand bytes, little-endian. -/
def op16 (l : List Byte) : Word := l.getD 1 0 ++ l.getD 0 0

/-- Three operand bytes, little-endian, the bank last. -/
def op24 (l : List Byte) : Addr := l.getD 2 0 ++ l.getD 1 0 ++ l.getD 0 0

/-- The immediate operand: one byte when the length is 2, else two. -/
def opImm (l : List Byte) : Imm :=
  if l.length == 1 then .byte (op8 l) else .word (op16 l)

/-! ## Decoding -/

/-- What the opcodes 0x00 to 0x0F decode to, from their operand bytes (R155). -/
def decodeRow0 : List (List Byte → Instr) := [
  fun l => .brk (op8 l), fun l => .oraIndX (op8 l), fun l => .cop (op8 l), fun l => .oraSr (op8 l),
  fun l => .tsbDir (op8 l), fun l => .oraDir (op8 l), fun l => .aslDir (op8 l), fun l => .oraIndLong (op8 l),
  fun _ => .php, fun l => .oraImm (opImm l), fun _ => .aslAcc, fun _ => .phd,
  fun l => .tsbAbs (op16 l), fun l => .oraAbs (op16 l), fun l => .aslAbs (op16 l), fun l => .oraLong (op24 l)]

/-- What the opcodes 0x10 to 0x1F decode to, from their operand bytes (R155). -/
def decodeRow1 : List (List Byte → Instr) := [
  fun l => .bpl (op8 l), fun l => .oraIndY (op8 l), fun l => .oraInd (op8 l), fun l => .oraSrIndY (op8 l),
  fun l => .trbDir (op8 l), fun l => .oraDirX (op8 l), fun l => .aslDirX (op8 l), fun l => .oraIndLongY (op8 l),
  fun _ => .clc, fun l => .oraAbsY (op16 l), fun _ => .incAcc, fun _ => .tcs,
  fun l => .trbAbs (op16 l), fun l => .oraAbsX (op16 l), fun l => .aslAbsX (op16 l), fun l => .oraLongX (op24 l)]

/-- What the opcodes 0x20 to 0x2F decode to, from their operand bytes (R155). -/
def decodeRow2 : List (List Byte → Instr) := [
  fun l => .jsrAbs (op16 l), fun l => .andIndX (op8 l), fun l => .jsl (op24 l), fun l => .andSr (op8 l),
  fun l => .bitDir (op8 l), fun l => .andDir (op8 l), fun l => .rolDir (op8 l), fun l => .andIndLong (op8 l),
  fun _ => .plp, fun l => .andImm (opImm l), fun _ => .rolAcc, fun _ => .pld,
  fun l => .bitAbs (op16 l), fun l => .andAbs (op16 l), fun l => .rolAbs (op16 l), fun l => .andLong (op24 l)]

/-- What the opcodes 0x30 to 0x3F decode to, from their operand bytes (R155). -/
def decodeRow3 : List (List Byte → Instr) := [
  fun l => .bmi (op8 l), fun l => .andIndY (op8 l), fun l => .andInd (op8 l), fun l => .andSrIndY (op8 l),
  fun l => .bitDirX (op8 l), fun l => .andDirX (op8 l), fun l => .rolDirX (op8 l), fun l => .andIndLongY (op8 l),
  fun _ => .sec, fun l => .andAbsY (op16 l), fun _ => .decAcc, fun _ => .tsc,
  fun l => .bitAbsX (op16 l), fun l => .andAbsX (op16 l), fun l => .rolAbsX (op16 l), fun l => .andLongX (op24 l)]

/-- What the opcodes 0x40 to 0x4F decode to, from their operand bytes (R155). -/
def decodeRow4 : List (List Byte → Instr) := [
  fun _ => .rti, fun l => .eorIndX (op8 l), fun l => .wdm (op8 l), fun l => .eorSr (op8 l),
  fun l => .mvp (op8 l) (op8' l), fun l => .eorDir (op8 l), fun l => .lsrDir (op8 l), fun l => .eorIndLong (op8 l),
  fun _ => .pha, fun l => .eorImm (opImm l), fun _ => .lsrAcc, fun _ => .phk,
  fun l => .jmpAbs (op16 l), fun l => .eorAbs (op16 l), fun l => .lsrAbs (op16 l), fun l => .eorLong (op24 l)]

/-- What the opcodes 0x50 to 0x5F decode to, from their operand bytes (R155). -/
def decodeRow5 : List (List Byte → Instr) := [
  fun l => .bvc (op8 l), fun l => .eorIndY (op8 l), fun l => .eorInd (op8 l), fun l => .eorSrIndY (op8 l),
  fun l => .mvn (op8 l) (op8' l), fun l => .eorDirX (op8 l), fun l => .lsrDirX (op8 l), fun l => .eorIndLongY (op8 l),
  fun _ => .cli, fun l => .eorAbsY (op16 l), fun _ => .phy, fun _ => .tcd,
  fun l => .jmlLong (op24 l), fun l => .eorAbsX (op16 l), fun l => .lsrAbsX (op16 l), fun l => .eorLongX (op24 l)]

/-- What the opcodes 0x60 to 0x6F decode to, from their operand bytes (R155). -/
def decodeRow6 : List (List Byte → Instr) := [
  fun _ => .rts, fun l => .adcIndX (op8 l), fun l => .per (op16 l), fun l => .adcSr (op8 l),
  fun l => .stzDir (op8 l), fun l => .adcDir (op8 l), fun l => .rorDir (op8 l), fun l => .adcIndLong (op8 l),
  fun _ => .pla, fun l => .adcImm (opImm l), fun _ => .rorAcc, fun _ => .rtl,
  fun l => .jmpAbsInd (op16 l), fun l => .adcAbs (op16 l), fun l => .rorAbs (op16 l), fun l => .adcLong (op24 l)]

/-- What the opcodes 0x70 to 0x7F decode to, from their operand bytes (R155). -/
def decodeRow7 : List (List Byte → Instr) := [
  fun l => .bvs (op8 l), fun l => .adcIndY (op8 l), fun l => .adcInd (op8 l), fun l => .adcSrIndY (op8 l),
  fun l => .stzDirX (op8 l), fun l => .adcDirX (op8 l), fun l => .rorDirX (op8 l), fun l => .adcIndLongY (op8 l),
  fun _ => .sei, fun l => .adcAbsY (op16 l), fun _ => .ply, fun _ => .tdc,
  fun l => .jmpAbsIndX (op16 l), fun l => .adcAbsX (op16 l), fun l => .rorAbsX (op16 l), fun l => .adcLongX (op24 l)]

/-- What the opcodes 0x80 to 0x8F decode to, from their operand bytes (R155). -/
def decodeRow8 : List (List Byte → Instr) := [
  fun l => .bra (op8 l), fun l => .staIndX (op8 l), fun l => .brl (op16 l), fun l => .staSr (op8 l),
  fun l => .styDir (op8 l), fun l => .staDir (op8 l), fun l => .stxDir (op8 l), fun l => .staIndLong (op8 l),
  fun _ => .dey, fun l => .bitImm (opImm l), fun _ => .txa, fun _ => .phb,
  fun l => .styAbs (op16 l), fun l => .staAbs (op16 l), fun l => .stxAbs (op16 l), fun l => .staLong (op24 l)]

/-- What the opcodes 0x90 to 0x9F decode to, from their operand bytes (R155). -/
def decodeRow9 : List (List Byte → Instr) := [
  fun l => .bcc (op8 l), fun l => .staIndY (op8 l), fun l => .staInd (op8 l), fun l => .staSrIndY (op8 l),
  fun l => .styDirX (op8 l), fun l => .staDirX (op8 l), fun l => .stxDirY (op8 l), fun l => .staIndLongY (op8 l),
  fun _ => .tya, fun l => .staAbsY (op16 l), fun _ => .txs, fun _ => .txy,
  fun l => .stzAbs (op16 l), fun l => .staAbsX (op16 l), fun l => .stzAbsX (op16 l), fun l => .staLongX (op24 l)]

/-- What the opcodes 0xA0 to 0xAF decode to, from their operand bytes (R155). -/
def decodeRowA : List (List Byte → Instr) := [
  fun l => .ldyImm (opImm l), fun l => .ldaIndX (op8 l), fun l => .ldxImm (opImm l), fun l => .ldaSr (op8 l),
  fun l => .ldyDir (op8 l), fun l => .ldaDir (op8 l), fun l => .ldxDir (op8 l), fun l => .ldaIndLong (op8 l),
  fun _ => .tay, fun l => .ldaImm (opImm l), fun _ => .tax, fun _ => .plb,
  fun l => .ldyAbs (op16 l), fun l => .ldaAbs (op16 l), fun l => .ldxAbs (op16 l), fun l => .ldaLong (op24 l)]

/-- What the opcodes 0xB0 to 0xBF decode to, from their operand bytes (R155). -/
def decodeRowB : List (List Byte → Instr) := [
  fun l => .bcs (op8 l), fun l => .ldaIndY (op8 l), fun l => .ldaInd (op8 l), fun l => .ldaSrIndY (op8 l),
  fun l => .ldyDirX (op8 l), fun l => .ldaDirX (op8 l), fun l => .ldxDirY (op8 l), fun l => .ldaIndLongY (op8 l),
  fun _ => .clv, fun l => .ldaAbsY (op16 l), fun _ => .tsx, fun _ => .tyx,
  fun l => .ldyAbsX (op16 l), fun l => .ldaAbsX (op16 l), fun l => .ldxAbsY (op16 l), fun l => .ldaLongX (op24 l)]

/-- What the opcodes 0xC0 to 0xCF decode to, from their operand bytes (R155). -/
def decodeRowC : List (List Byte → Instr) := [
  fun l => .cpyImm (opImm l), fun l => .cmpIndX (op8 l), fun l => .rep (op8 l), fun l => .cmpSr (op8 l),
  fun l => .cpyDir (op8 l), fun l => .cmpDir (op8 l), fun l => .decDir (op8 l), fun l => .cmpIndLong (op8 l),
  fun _ => .iny, fun l => .cmpImm (opImm l), fun _ => .dex, fun _ => .wai,
  fun l => .cpyAbs (op16 l), fun l => .cmpAbs (op16 l), fun l => .decAbs (op16 l), fun l => .cmpLong (op24 l)]

/-- What the opcodes 0xD0 to 0xDF decode to, from their operand bytes (R155). -/
def decodeRowD : List (List Byte → Instr) := [
  fun l => .bne (op8 l), fun l => .cmpIndY (op8 l), fun l => .cmpInd (op8 l), fun l => .cmpSrIndY (op8 l),
  fun l => .pei (op8 l), fun l => .cmpDirX (op8 l), fun l => .decDirX (op8 l), fun l => .cmpIndLongY (op8 l),
  fun _ => .cld, fun l => .cmpAbsY (op16 l), fun _ => .phx, fun _ => .stp,
  fun l => .jmlAbsIndLong (op16 l), fun l => .cmpAbsX (op16 l), fun l => .decAbsX (op16 l), fun l => .cmpLongX (op24 l)]

/-- What the opcodes 0xE0 to 0xEF decode to, from their operand bytes (R155). -/
def decodeRowE : List (List Byte → Instr) := [
  fun l => .cpxImm (opImm l), fun l => .sbcIndX (op8 l), fun l => .sep (op8 l), fun l => .sbcSr (op8 l),
  fun l => .cpxDir (op8 l), fun l => .sbcDir (op8 l), fun l => .incDir (op8 l), fun l => .sbcIndLong (op8 l),
  fun _ => .inx, fun l => .sbcImm (opImm l), fun _ => .nop, fun _ => .xba,
  fun l => .cpxAbs (op16 l), fun l => .sbcAbs (op16 l), fun l => .incAbs (op16 l), fun l => .sbcLong (op24 l)]

/-- What the opcodes 0xF0 to 0xFF decode to, from their operand bytes (R155). -/
def decodeRowF : List (List Byte → Instr) := [
  fun l => .beq (op8 l), fun l => .sbcIndY (op8 l), fun l => .sbcInd (op8 l), fun l => .sbcSrIndY (op8 l),
  fun l => .pea (op16 l), fun l => .sbcDirX (op8 l), fun l => .incDirX (op8 l), fun l => .sbcIndLongY (op8 l),
  fun _ => .sed, fun l => .sbcAbsY (op16 l), fun _ => .plx, fun _ => .xce,
  fun l => .jsrAbsIndX (op16 l), fun l => .sbcAbsX (op16 l), fun l => .incAbsX (op16 l), fun l => .sbcLongX (op24 l)]

/-- The decoder's rows by high nibble. -/
def decodeRows : List (List (List Byte → Instr)) := [
  decodeRow0, decodeRow1, decodeRow2, decodeRow3, decodeRow4, decodeRow5, decodeRow6, decodeRow7,
  decodeRow8, decodeRow9, decodeRowA, decodeRowB, decodeRowC, decodeRowD, decodeRowE, decodeRowF]

/-- The instruction an opcode byte and its operand bytes stand for (R130, R140). Total: the default is never reached. -/
def assemble (code : Byte) (operand : List Byte) : Instr :=
  (decodeRows.getD (code.toNat / 16) []).getD (code.toNat % 16) (fun _ => .nop) operand

/-- Why a byte list does not decode: it is empty, or it ends inside the instruction its opcode byte starts. -/
inductive DecodeError where
  | empty
  | truncated (code : Byte)
  deriving DecidableEq, Repr

/-- The decoder, total on any bytes: the instruction and the bytes after it. -/
def decode (w : Widths) : List Byte → Except DecodeError (Instr × List Byte)
  | [] => .error .empty
  | code :: rest =>
    let n := operandBytes w code
    if rest.length < n then .error (.truncated code)
    else .ok (assemble code (rest.take n), rest.drop n)

/-! ## Encoding -/

/-- The opcode byte of an instruction (R156). -/
def Instr.opcode : Instr → Byte
  | .brk _ => 0x00
  | .oraIndX _ => 0x01
  | .cop _ => 0x02
  | .oraSr _ => 0x03
  | .tsbDir _ => 0x04
  | .oraDir _ => 0x05
  | .aslDir _ => 0x06
  | .oraIndLong _ => 0x07
  | .php => 0x08
  | .oraImm _ => 0x09
  | .aslAcc => 0x0A
  | .phd => 0x0B
  | .tsbAbs _ => 0x0C
  | .oraAbs _ => 0x0D
  | .aslAbs _ => 0x0E
  | .oraLong _ => 0x0F
  | .bpl _ => 0x10
  | .oraIndY _ => 0x11
  | .oraInd _ => 0x12
  | .oraSrIndY _ => 0x13
  | .trbDir _ => 0x14
  | .oraDirX _ => 0x15
  | .aslDirX _ => 0x16
  | .oraIndLongY _ => 0x17
  | .clc => 0x18
  | .oraAbsY _ => 0x19
  | .incAcc => 0x1A
  | .tcs => 0x1B
  | .trbAbs _ => 0x1C
  | .oraAbsX _ => 0x1D
  | .aslAbsX _ => 0x1E
  | .oraLongX _ => 0x1F
  | .jsrAbs _ => 0x20
  | .andIndX _ => 0x21
  | .jsl _ => 0x22
  | .andSr _ => 0x23
  | .bitDir _ => 0x24
  | .andDir _ => 0x25
  | .rolDir _ => 0x26
  | .andIndLong _ => 0x27
  | .plp => 0x28
  | .andImm _ => 0x29
  | .rolAcc => 0x2A
  | .pld => 0x2B
  | .bitAbs _ => 0x2C
  | .andAbs _ => 0x2D
  | .rolAbs _ => 0x2E
  | .andLong _ => 0x2F
  | .bmi _ => 0x30
  | .andIndY _ => 0x31
  | .andInd _ => 0x32
  | .andSrIndY _ => 0x33
  | .bitDirX _ => 0x34
  | .andDirX _ => 0x35
  | .rolDirX _ => 0x36
  | .andIndLongY _ => 0x37
  | .sec => 0x38
  | .andAbsY _ => 0x39
  | .decAcc => 0x3A
  | .tsc => 0x3B
  | .bitAbsX _ => 0x3C
  | .andAbsX _ => 0x3D
  | .rolAbsX _ => 0x3E
  | .andLongX _ => 0x3F
  | .rti => 0x40
  | .eorIndX _ => 0x41
  | .wdm _ => 0x42
  | .eorSr _ => 0x43
  | .mvp _ _ => 0x44
  | .eorDir _ => 0x45
  | .lsrDir _ => 0x46
  | .eorIndLong _ => 0x47
  | .pha => 0x48
  | .eorImm _ => 0x49
  | .lsrAcc => 0x4A
  | .phk => 0x4B
  | .jmpAbs _ => 0x4C
  | .eorAbs _ => 0x4D
  | .lsrAbs _ => 0x4E
  | .eorLong _ => 0x4F
  | .bvc _ => 0x50
  | .eorIndY _ => 0x51
  | .eorInd _ => 0x52
  | .eorSrIndY _ => 0x53
  | .mvn _ _ => 0x54
  | .eorDirX _ => 0x55
  | .lsrDirX _ => 0x56
  | .eorIndLongY _ => 0x57
  | .cli => 0x58
  | .eorAbsY _ => 0x59
  | .phy => 0x5A
  | .tcd => 0x5B
  | .jmlLong _ => 0x5C
  | .eorAbsX _ => 0x5D
  | .lsrAbsX _ => 0x5E
  | .eorLongX _ => 0x5F
  | .rts => 0x60
  | .adcIndX _ => 0x61
  | .per _ => 0x62
  | .adcSr _ => 0x63
  | .stzDir _ => 0x64
  | .adcDir _ => 0x65
  | .rorDir _ => 0x66
  | .adcIndLong _ => 0x67
  | .pla => 0x68
  | .adcImm _ => 0x69
  | .rorAcc => 0x6A
  | .rtl => 0x6B
  | .jmpAbsInd _ => 0x6C
  | .adcAbs _ => 0x6D
  | .rorAbs _ => 0x6E
  | .adcLong _ => 0x6F
  | .bvs _ => 0x70
  | .adcIndY _ => 0x71
  | .adcInd _ => 0x72
  | .adcSrIndY _ => 0x73
  | .stzDirX _ => 0x74
  | .adcDirX _ => 0x75
  | .rorDirX _ => 0x76
  | .adcIndLongY _ => 0x77
  | .sei => 0x78
  | .adcAbsY _ => 0x79
  | .ply => 0x7A
  | .tdc => 0x7B
  | .jmpAbsIndX _ => 0x7C
  | .adcAbsX _ => 0x7D
  | .rorAbsX _ => 0x7E
  | .adcLongX _ => 0x7F
  | .bra _ => 0x80
  | .staIndX _ => 0x81
  | .brl _ => 0x82
  | .staSr _ => 0x83
  | .styDir _ => 0x84
  | .staDir _ => 0x85
  | .stxDir _ => 0x86
  | .staIndLong _ => 0x87
  | .dey => 0x88
  | .bitImm _ => 0x89
  | .txa => 0x8A
  | .phb => 0x8B
  | .styAbs _ => 0x8C
  | .staAbs _ => 0x8D
  | .stxAbs _ => 0x8E
  | .staLong _ => 0x8F
  | .bcc _ => 0x90
  | .staIndY _ => 0x91
  | .staInd _ => 0x92
  | .staSrIndY _ => 0x93
  | .styDirX _ => 0x94
  | .staDirX _ => 0x95
  | .stxDirY _ => 0x96
  | .staIndLongY _ => 0x97
  | .tya => 0x98
  | .staAbsY _ => 0x99
  | .txs => 0x9A
  | .txy => 0x9B
  | .stzAbs _ => 0x9C
  | .staAbsX _ => 0x9D
  | .stzAbsX _ => 0x9E
  | .staLongX _ => 0x9F
  | .ldyImm _ => 0xA0
  | .ldaIndX _ => 0xA1
  | .ldxImm _ => 0xA2
  | .ldaSr _ => 0xA3
  | .ldyDir _ => 0xA4
  | .ldaDir _ => 0xA5
  | .ldxDir _ => 0xA6
  | .ldaIndLong _ => 0xA7
  | .tay => 0xA8
  | .ldaImm _ => 0xA9
  | .tax => 0xAA
  | .plb => 0xAB
  | .ldyAbs _ => 0xAC
  | .ldaAbs _ => 0xAD
  | .ldxAbs _ => 0xAE
  | .ldaLong _ => 0xAF
  | .bcs _ => 0xB0
  | .ldaIndY _ => 0xB1
  | .ldaInd _ => 0xB2
  | .ldaSrIndY _ => 0xB3
  | .ldyDirX _ => 0xB4
  | .ldaDirX _ => 0xB5
  | .ldxDirY _ => 0xB6
  | .ldaIndLongY _ => 0xB7
  | .clv => 0xB8
  | .ldaAbsY _ => 0xB9
  | .tsx => 0xBA
  | .tyx => 0xBB
  | .ldyAbsX _ => 0xBC
  | .ldaAbsX _ => 0xBD
  | .ldxAbsY _ => 0xBE
  | .ldaLongX _ => 0xBF
  | .cpyImm _ => 0xC0
  | .cmpIndX _ => 0xC1
  | .rep _ => 0xC2
  | .cmpSr _ => 0xC3
  | .cpyDir _ => 0xC4
  | .cmpDir _ => 0xC5
  | .decDir _ => 0xC6
  | .cmpIndLong _ => 0xC7
  | .iny => 0xC8
  | .cmpImm _ => 0xC9
  | .dex => 0xCA
  | .wai => 0xCB
  | .cpyAbs _ => 0xCC
  | .cmpAbs _ => 0xCD
  | .decAbs _ => 0xCE
  | .cmpLong _ => 0xCF
  | .bne _ => 0xD0
  | .cmpIndY _ => 0xD1
  | .cmpInd _ => 0xD2
  | .cmpSrIndY _ => 0xD3
  | .pei _ => 0xD4
  | .cmpDirX _ => 0xD5
  | .decDirX _ => 0xD6
  | .cmpIndLongY _ => 0xD7
  | .cld => 0xD8
  | .cmpAbsY _ => 0xD9
  | .phx => 0xDA
  | .stp => 0xDB
  | .jmlAbsIndLong _ => 0xDC
  | .cmpAbsX _ => 0xDD
  | .decAbsX _ => 0xDE
  | .cmpLongX _ => 0xDF
  | .cpxImm _ => 0xE0
  | .sbcIndX _ => 0xE1
  | .sep _ => 0xE2
  | .sbcSr _ => 0xE3
  | .cpxDir _ => 0xE4
  | .sbcDir _ => 0xE5
  | .incDir _ => 0xE6
  | .sbcIndLong _ => 0xE7
  | .inx => 0xE8
  | .sbcImm _ => 0xE9
  | .nop => 0xEA
  | .xba => 0xEB
  | .cpxAbs _ => 0xEC
  | .sbcAbs _ => 0xED
  | .incAbs _ => 0xEE
  | .sbcLong _ => 0xEF
  | .beq _ => 0xF0
  | .sbcIndY _ => 0xF1
  | .sbcInd _ => 0xF2
  | .sbcSrIndY _ => 0xF3
  | .pea _ => 0xF4
  | .sbcDirX _ => 0xF5
  | .incDirX _ => 0xF6
  | .sbcIndLongY _ => 0xF7
  | .sed => 0xF8
  | .sbcAbsY _ => 0xF9
  | .plx => 0xFA
  | .xce => 0xFB
  | .jsrAbsIndX _ => 0xFC
  | .sbcAbsX _ => 0xFD
  | .incAbsX _ => 0xFE
  | .sbcLongX _ => 0xFF

/-- The operand of an instruction in its addressing mode (R155, R137). -/
def Instr.operand : Instr → Operand
  | .brk sig => .stackByte sig
  | .oraIndX dp => .directXIndirect dp
  | .cop sig => .stackByte sig
  | .oraSr sr => .stackRelative sr
  | .tsbDir dp => .direct dp
  | .oraDir dp => .direct dp
  | .aslDir dp => .direct dp
  | .oraIndLong dp => .directIndirectLong dp
  | .php => .stack
  | .oraImm imm => .immediate imm
  | .aslAcc => .accumulator
  | .phd => .stack
  | .tsbAbs addr => .absolute addr
  | .oraAbs addr => .absolute addr
  | .aslAbs addr => .absolute addr
  | .oraLong long => .absoluteLong long
  | .bpl rel => .relative rel
  | .oraIndY dp => .directIndirectY dp
  | .oraInd dp => .directIndirect dp
  | .oraSrIndY sr => .stackRelativeIndirectY sr
  | .trbDir dp => .direct dp
  | .oraDirX dp => .directX dp
  | .aslDirX dp => .directX dp
  | .oraIndLongY dp => .directIndirectLongY dp
  | .clc => .implied
  | .oraAbsY addr => .absoluteY addr
  | .incAcc => .accumulator
  | .tcs => .implied
  | .trbAbs addr => .absolute addr
  | .oraAbsX addr => .absoluteX addr
  | .aslAbsX addr => .absoluteX addr
  | .oraLongX long => .absoluteLongX long
  | .jsrAbs addr => .absolute addr
  | .andIndX dp => .directXIndirect dp
  | .jsl long => .absoluteLong long
  | .andSr sr => .stackRelative sr
  | .bitDir dp => .direct dp
  | .andDir dp => .direct dp
  | .rolDir dp => .direct dp
  | .andIndLong dp => .directIndirectLong dp
  | .plp => .stack
  | .andImm imm => .immediate imm
  | .rolAcc => .accumulator
  | .pld => .stack
  | .bitAbs addr => .absolute addr
  | .andAbs addr => .absolute addr
  | .rolAbs addr => .absolute addr
  | .andLong long => .absoluteLong long
  | .bmi rel => .relative rel
  | .andIndY dp => .directIndirectY dp
  | .andInd dp => .directIndirect dp
  | .andSrIndY sr => .stackRelativeIndirectY sr
  | .bitDirX dp => .directX dp
  | .andDirX dp => .directX dp
  | .rolDirX dp => .directX dp
  | .andIndLongY dp => .directIndirectLongY dp
  | .sec => .implied
  | .andAbsY addr => .absoluteY addr
  | .decAcc => .accumulator
  | .tsc => .implied
  | .bitAbsX addr => .absoluteX addr
  | .andAbsX addr => .absoluteX addr
  | .rolAbsX addr => .absoluteX addr
  | .andLongX long => .absoluteLongX long
  | .rti => .stack
  | .eorIndX dp => .directXIndirect dp
  | .wdm sig => .impliedByte sig
  | .eorSr sr => .stackRelative sr
  | .mvp dst src => .blockMove dst src
  | .eorDir dp => .direct dp
  | .lsrDir dp => .direct dp
  | .eorIndLong dp => .directIndirectLong dp
  | .pha => .stack
  | .eorImm imm => .immediate imm
  | .lsrAcc => .accumulator
  | .phk => .stack
  | .jmpAbs addr => .absolute addr
  | .eorAbs addr => .absolute addr
  | .lsrAbs addr => .absolute addr
  | .eorLong long => .absoluteLong long
  | .bvc rel => .relative rel
  | .eorIndY dp => .directIndirectY dp
  | .eorInd dp => .directIndirect dp
  | .eorSrIndY sr => .stackRelativeIndirectY sr
  | .mvn dst src => .blockMove dst src
  | .eorDirX dp => .directX dp
  | .lsrDirX dp => .directX dp
  | .eorIndLongY dp => .directIndirectLongY dp
  | .cli => .implied
  | .eorAbsY addr => .absoluteY addr
  | .phy => .stack
  | .tcd => .implied
  | .jmlLong long => .absoluteLong long
  | .eorAbsX addr => .absoluteX addr
  | .lsrAbsX addr => .absoluteX addr
  | .eorLongX long => .absoluteLongX long
  | .rts => .stack
  | .adcIndX dp => .directXIndirect dp
  | .per rel => .stackWord rel
  | .adcSr sr => .stackRelative sr
  | .stzDir dp => .direct dp
  | .adcDir dp => .direct dp
  | .rorDir dp => .direct dp
  | .adcIndLong dp => .directIndirectLong dp
  | .pla => .stack
  | .adcImm imm => .immediate imm
  | .rorAcc => .accumulator
  | .rtl => .stack
  | .jmpAbsInd addr => .absoluteIndirect addr
  | .adcAbs addr => .absolute addr
  | .rorAbs addr => .absolute addr
  | .adcLong long => .absoluteLong long
  | .bvs rel => .relative rel
  | .adcIndY dp => .directIndirectY dp
  | .adcInd dp => .directIndirect dp
  | .adcSrIndY sr => .stackRelativeIndirectY sr
  | .stzDirX dp => .directX dp
  | .adcDirX dp => .directX dp
  | .rorDirX dp => .directX dp
  | .adcIndLongY dp => .directIndirectLongY dp
  | .sei => .implied
  | .adcAbsY addr => .absoluteY addr
  | .ply => .stack
  | .tdc => .implied
  | .jmpAbsIndX addr => .absoluteXIndirect addr
  | .adcAbsX addr => .absoluteX addr
  | .rorAbsX addr => .absoluteX addr
  | .adcLongX long => .absoluteLongX long
  | .bra rel => .relative rel
  | .staIndX dp => .directXIndirect dp
  | .brl rel => .relativeLong rel
  | .staSr sr => .stackRelative sr
  | .styDir dp => .direct dp
  | .staDir dp => .direct dp
  | .stxDir dp => .direct dp
  | .staIndLong dp => .directIndirectLong dp
  | .dey => .implied
  | .bitImm imm => .immediate imm
  | .txa => .implied
  | .phb => .stack
  | .styAbs addr => .absolute addr
  | .staAbs addr => .absolute addr
  | .stxAbs addr => .absolute addr
  | .staLong long => .absoluteLong long
  | .bcc rel => .relative rel
  | .staIndY dp => .directIndirectY dp
  | .staInd dp => .directIndirect dp
  | .staSrIndY sr => .stackRelativeIndirectY sr
  | .styDirX dp => .directX dp
  | .staDirX dp => .directX dp
  | .stxDirY dp => .directY dp
  | .staIndLongY dp => .directIndirectLongY dp
  | .tya => .implied
  | .staAbsY addr => .absoluteY addr
  | .txs => .implied
  | .txy => .implied
  | .stzAbs addr => .absolute addr
  | .staAbsX addr => .absoluteX addr
  | .stzAbsX addr => .absoluteX addr
  | .staLongX long => .absoluteLongX long
  | .ldyImm imm => .immediate imm
  | .ldaIndX dp => .directXIndirect dp
  | .ldxImm imm => .immediate imm
  | .ldaSr sr => .stackRelative sr
  | .ldyDir dp => .direct dp
  | .ldaDir dp => .direct dp
  | .ldxDir dp => .direct dp
  | .ldaIndLong dp => .directIndirectLong dp
  | .tay => .implied
  | .ldaImm imm => .immediate imm
  | .tax => .implied
  | .plb => .stack
  | .ldyAbs addr => .absolute addr
  | .ldaAbs addr => .absolute addr
  | .ldxAbs addr => .absolute addr
  | .ldaLong long => .absoluteLong long
  | .bcs rel => .relative rel
  | .ldaIndY dp => .directIndirectY dp
  | .ldaInd dp => .directIndirect dp
  | .ldaSrIndY sr => .stackRelativeIndirectY sr
  | .ldyDirX dp => .directX dp
  | .ldaDirX dp => .directX dp
  | .ldxDirY dp => .directY dp
  | .ldaIndLongY dp => .directIndirectLongY dp
  | .clv => .implied
  | .ldaAbsY addr => .absoluteY addr
  | .tsx => .implied
  | .tyx => .implied
  | .ldyAbsX addr => .absoluteX addr
  | .ldaAbsX addr => .absoluteX addr
  | .ldxAbsY addr => .absoluteY addr
  | .ldaLongX long => .absoluteLongX long
  | .cpyImm imm => .immediate imm
  | .cmpIndX dp => .directXIndirect dp
  | .rep mask => .immediate (.byte mask)
  | .cmpSr sr => .stackRelative sr
  | .cpyDir dp => .direct dp
  | .cmpDir dp => .direct dp
  | .decDir dp => .direct dp
  | .cmpIndLong dp => .directIndirectLong dp
  | .iny => .implied
  | .cmpImm imm => .immediate imm
  | .dex => .implied
  | .wai => .implied
  | .cpyAbs addr => .absolute addr
  | .cmpAbs addr => .absolute addr
  | .decAbs addr => .absolute addr
  | .cmpLong long => .absoluteLong long
  | .bne rel => .relative rel
  | .cmpIndY dp => .directIndirectY dp
  | .cmpInd dp => .directIndirect dp
  | .cmpSrIndY sr => .stackRelativeIndirectY sr
  | .pei dp => .stackByte dp
  | .cmpDirX dp => .directX dp
  | .decDirX dp => .directX dp
  | .cmpIndLongY dp => .directIndirectLongY dp
  | .cld => .implied
  | .cmpAbsY addr => .absoluteY addr
  | .phx => .stack
  | .stp => .implied
  | .jmlAbsIndLong addr => .absoluteIndirectLong addr
  | .cmpAbsX addr => .absoluteX addr
  | .decAbsX addr => .absoluteX addr
  | .cmpLongX long => .absoluteLongX long
  | .cpxImm imm => .immediate imm
  | .sbcIndX dp => .directXIndirect dp
  | .sep mask => .immediate (.byte mask)
  | .sbcSr sr => .stackRelative sr
  | .cpxDir dp => .direct dp
  | .sbcDir dp => .direct dp
  | .incDir dp => .direct dp
  | .sbcIndLong dp => .directIndirectLong dp
  | .inx => .implied
  | .sbcImm imm => .immediate imm
  | .nop => .implied
  | .xba => .implied
  | .cpxAbs addr => .absolute addr
  | .sbcAbs addr => .absolute addr
  | .incAbs addr => .absolute addr
  | .sbcLong long => .absoluteLong long
  | .beq rel => .relative rel
  | .sbcIndY dp => .directIndirectY dp
  | .sbcInd dp => .directIndirect dp
  | .sbcSrIndY sr => .stackRelativeIndirectY sr
  | .pea addr => .stackWord addr
  | .sbcDirX dp => .directX dp
  | .incDirX dp => .directX dp
  | .sbcIndLongY dp => .directIndirectLongY dp
  | .sed => .implied
  | .sbcAbsY addr => .absoluteY addr
  | .plx => .stack
  | .xce => .implied
  | .jsrAbsIndX addr => .absoluteXIndirect addr
  | .sbcAbsX addr => .absoluteX addr
  | .incAbsX addr => .absoluteX addr
  | .sbcLongX long => .absoluteLongX long

/-- The low byte of a word. -/
def wordLo (v : Word) : Byte := v.setWidth 8

/-- The high byte of a word. -/
def wordHi (v : Word) : Byte := (v >>> 8).setWidth 8

/-- The bytes of an immediate, little-endian. -/
def Imm.bytes : Imm → List Byte
  | .byte v => [v]
  | .word v => [wordLo v, wordHi v]

/-- The bytes of a long address: low, high, bank. -/
def longBytes (a : Addr) : List Byte := [a.setWidth 8, (a >>> 8).setWidth 8, (a >>> 16).setWidth 8]

/-- The operand bytes of an operand, in the order they are fetched (R61, R137). -/
def Operand.bytes : Operand → List Byte
  | .implied => [] | .impliedByte v => [v]
  | .accumulator => []
  | .immediate imm => imm.bytes
  | .direct dp => [dp] | .directX dp => [dp] | .directY dp => [dp]
  | .directIndirect dp => [dp] | .directXIndirect dp => [dp] | .directIndirectY dp => [dp]
  | .directIndirectLong dp => [dp] | .directIndirectLongY dp => [dp]
  | .absolute a => [wordLo a, wordHi a] | .absoluteX a => [wordLo a, wordHi a] | .absoluteY a => [wordLo a, wordHi a]
  | .absoluteLong a => longBytes a | .absoluteLongX a => longBytes a
  | .absoluteIndirect a => [wordLo a, wordHi a] | .absoluteIndirectLong a => [wordLo a, wordHi a]
  | .absoluteXIndirect a => [wordLo a, wordHi a]
  | .stackRelative sr => [sr] | .stackRelativeIndirectY sr => [sr]
  | .relative rel => [rel] | .relativeLong rel => [wordLo rel, wordHi rel]
  | .blockMove dst src => [dst, src]
  | .stack => [] | .stackByte v => [v] | .stackWord v => [wordLo v, wordHi v]

/-- The encoder: the opcode byte, then the operand bytes (R130). -/
def encode (i : Instr) : List Byte := i.opcode :: i.operand.bytes

/-- The mnemonic of an instruction (R131). -/
def Instr.mnemonic (i : Instr) : Mnemonic := (opRecord i.opcode).mnemonic

/-! ## The host's two questions -/

/-- The four bytes of an instruction given as one number, first byte in the low bits, every bit above `nbits` zero. -/
def tableWordBytes (nbits w : Nat) : List Byte :=
  let v := w % 2 ^ nbits
  [BitVec.ofNat 8 v, BitVec.ofNat 8 (v / 2 ^ 8), BitVec.ofNat 8 (v / 2 ^ 16), BitVec.ofNat 8 (v / 2 ^ 24)]

/-- The instruction the decoder reads from a table word, in the width state after reset (8-bit, R54). -/
def decodeTableWord (nbits w : Nat) : Option Instr :=
  match decode ⟨false, false⟩ (tableWordBytes nbits w) with
  | .ok (i, _) => some i
  | .error _ => none

end Sys2Proof
end

