-- ==== Sys2Proof/Machine/Registers.lean ====
section
/-! DEFINITION. The register file's accessors: the status images, the derived widths, the width-aware register accesses and the
register invariants (spec/10_state.md R21 to R44). -/

namespace Sys2Proof.Machine

/-! ## The status register (R32, R44) -/

/-- The eight flags as a byte: N V M X D I Z C from bit 7 to bit 0 (R32). -/
def Status.toByte (p : Status) : Byte :=
  BitVec.ofBool p.n ++ BitVec.ofBool p.v ++ BitVec.ofBool p.m ++ BitVec.ofBool p.x ++
  BitVec.ofBool p.d ++ BitVec.ofBool p.i ++ BitVec.ofBool p.z ++ BitVec.ofBool p.c

/-- The 16-bit word of R32: E at bit 8, bits 15 to 9 zero. -/
def Status.toWord (p : Status) : Word := (0 : BitVec 7) ++ BitVec.ofBool p.e ++ p.toByte

/-- Write the eight flags from a byte; E stays. -/
def Status.withByte (p : Status) (v : Byte) : Status where
  n := v.getLsbD 7
  v := v.getLsbD 6
  m := v.getLsbD 5
  x := v.getLsbD 4
  d := v.getLsbD 3
  i := v.getLsbD 2
  z := v.getLsbD 1
  c := v.getLsbD 0
  e := p.e

/-- In emulation mode M and X are held at 1 (R42). -/
def Status.forceEmulation (p : Status) : Status :=
  { p with m := p.e || p.m, x := p.e || p.x }

/-! ## Derived widths (R30) -/

/-- `is16M = !E && !P.M`. -/
def Cpu.is16M (c : Cpu) : Bool := !c.p.e && !c.p.m

/-- `is16X = !E && !P.X`. -/
def Cpu.is16X (c : Cpu) : Bool := !c.p.e && !c.p.x

/-- `mw`: the memory and accumulator width. -/
def Cpu.mw (c : Cpu) : Width := Width.of c.is16M

/-- `xw`: the index width. -/
def Cpu.xw (c : Cpu) : Width := Width.of c.is16X

/-- The width state the decoder reads (R134). -/
def Cpu.widths (c : Cpu) : Widths := ⟨c.is16M, c.is16X⟩

/-! ## Width-aware register accesses (R22, R24) -/

/-- `getA(w)` (R22). -/
def Cpu.getA (c : Cpu) (w : Width) : Word := w.trunc c.a

/-- `getX(w)` (R24). -/
def Cpu.getX (c : Cpu) (w : Width) : Word := w.trunc c.x

/-- `getY(w)` (R24). -/
def Cpu.getY (c : Cpu) (w : Width) : Word := w.trunc c.y

/-- `setA(w, v)`: an 8-bit write preserves A.h (R22). -/
def Cpu.setA (c : Cpu) (w : Width) (v : Word) : Cpu :=
  match w with
  | .w8 => { c with a := (c.a &&& 0xFF00) ||| (v &&& 0x00FF) }
  | .w16 => { c with a := v }

/-- `setX(w, v)`: an 8-bit write makes X.h zero (R24). -/
def Cpu.setX (c : Cpu) (w : Width) (v : Word) : Cpu := { c with x := w.trunc v }

/-- `setY(w, v)`: an 8-bit write makes Y.h zero (R24). -/
def Cpu.setY (c : Cpu) (w : Width) (v : Word) : Cpu := { c with y := w.trunc v }

/-- The stack pointer held in page 1: `0x0100 | S.l` (R42). -/
def pageOne (s : Word) : Word := 0x0100 ||| (s &&& 0x00FF)

/-- Write S, keeping S.h = 0x01 in emulation mode (R42). -/
def Cpu.setS (c : Cpu) (v : Word) : Cpu := { c with s := if c.p.e then pageOne v else v }

/-- Index-width invariant: where P.X = 1 the high bytes of X and Y become 0 (R43). -/
def Cpu.fixIndex (c : Cpu) : Cpu :=
  if c.p.x then { c with x := c.x &&& 0x00FF, y := c.y &&& 0x00FF } else c

/-- Pull the status byte into P, as PLP and RTI do: the eight flags, M and X forced in emulation mode, X.h and Y.h cleared where X
is 1 (R353, R386). -/
def Cpu.pullStatus (c : Cpu) (v : Byte) : Cpu :=
  { c with p := (c.p.withByte v).forceEmulation }.fixIndex

/-- `setNZ(v, w)` (R40). -/
def Cpu.setNZ (c : Cpu) (v : Word) (w : Width) : Cpu :=
  { c with p := { c.p with n := w.msb v, z := w.trunc v == 0 } }

/-! ## Configuration lookups -/

/-- Whether the emulation-mode stack accesses of an opcode are free of the page-1 wrap (R340). -/
def noWrapOf (p : Params) (op : Byte) : Bool := p.noWrap.contains op

end Sys2Proof.Machine
end

