-- ==== Sys2Proof/Machine/Cycles.lean ====
section
/-! DEFINITION. The cycle counter's formula (spec/30_encoding.md R150 to R153). -/

namespace Sys2Proof.Machine

/-- `dpTest(D)` (R150). -/
def dpTest (p : Params) (d : Word) : Bool :=
  match p.dpPenaltyTest with
  | .wholeD => d != 0
  | .lowByte => d &&& 0x00FF != 0

/-- One cycle where an option is in the set and its condition holds. -/
def cycleTerm (opts : List CycleOption) (o : CycleOption) (n : Nat) (cond : Bool) : Nat :=
  if opts.contains o && cond then n else 0

/-- `OpCode.total_cycles` (R150), with the registers at decode. `pageCross` is R152's, `taken` and `target` are a branch's. -/
def totalCycles (p : Params) (c : Cpu) (rec : OpRecord) (pageCross taken : Bool) (target nextPc : Word) : Nat :=
  rec.cycles
  + cycleTerm rec.options .add1CycleIf16bitAccess 1 c.is16M
  + cycleTerm rec.options .add2CycleIf16bitAccess 2 c.is16M
  + cycleTerm rec.options .add1CycleIfDPRegNonZero 1 (dpTest p c.d)
  + cycleTerm rec.options .add1CycleIfPageBoundaryOrXRegZero 1 (!c.p.x || (p.pageCrossPenalty && pageCross))
  + cycleTerm rec.options .add1CycleIfXZero 1 (!c.p.x)
  + cycleTerm rec.options .add1CycleIfNativeMode 1 (!c.p.e)
  + cycleTerm rec.options .add1CycleIfBranchTaken 1 (p.branchCycles && taken)
  + cycleTerm rec.options .add1CycleIfBranchPageCrossInEmulation 1
      (p.branchCycles && taken && c.p.e && (target >>> 8 != nextPc >>> 8))

/-- The cycles of a hardware interrupt entry (R153). -/
def interruptCycles (c : Cpu) : Nat := if c.p.e then 7 else 8

end Sys2Proof.Machine
end

