-- ==== Sys2Proof/Machine/Uninit.lean ====
section
/-! DEFINITION. `UNINIT_READ = FAULT` (spec/00_scope.md R7, spec/10_state.md R54, spec/70_reset_and_hazards.md R463): the record of
which drawn values have been written, what each bus access and each instruction reads and writes of them, and when an unwritten one
has been read. Under `DRAW` nothing here has an effect. What counts as a read is read from the rules of the instructions (DEDUCED,
log 5). -/

namespace Sys2Proof.Machine

/-! ## The record -/

/-- The place of a memory cell in the record; ROM is the cartridge file's and never a draw. -/
def ramIndex : CellId → Option Nat
  | (.wram, l) => some l
  | (.sram1, l) => some (0x20000 + l)
  | (.sram2, l) => some (0x90000 + l)
  | (.sramH, l) => some (0xA0000 + l)
  | (.rom, _) => none

/-- How many places there are. -/
def ramCells : Nat := 0xE0000

/-- Values are written. -/
def Marks.write (vs : List Drawn) (m : Marks) : Marks := { m with unwritten := m.unwritten.filter fun d => !vs.contains d }

/-- Values are read. -/
def Marks.read (vs : List Drawn) (m : Marks) : Marks := { m with violated := m.violated || vs.any m.unwritten.contains }

/-- A memory cell is written. -/
def Marks.writeCell (c : Option CellId) (m : Marks) : Marks :=
  match c.bind ramIndex with
  | some k => { m with cells := m.cells.write k 1 }
  | none => m

/-- A memory cell is read. -/
def Marks.readCell (c : Option CellId) (m : Marks) : Marks :=
  match c.bind ramIndex with
  | some k => { m with violated := m.violated || m.cells.read k == Mem.unlisted }
  | none => m

/-- The record after a change, kept under `UNINIT_READ = FAULT` only. -/
def State.marksAfter (f : Marks → Marks) (s : State) : Marks :=
  match s.params.uninitRead with
  | .draw => s.marks
  | .fault => f s.marks

/-- The state with its record changed. -/
def State.note (f : Marks → Marks) (s : State) : State := { s with marks := s.marksAfter f }

/-- Under `UNINIT_READ = FAULT` an unwritten value has been read. -/
def State.readUnwritten (s : State) : Bool := decide (s.params.uninitRead = .fault) && s.marks.violated

/-! ## Bus accesses -/

/-- The views of `WmAddr` an access at a Bus B port uses (R84 to R87): WMDATA all three, a latch port its own. -/
def portViews (port : Word) : List Drawn :=
  if port = 0x2180 then [.wmLo, .wmMid, .wmHi]
  else if port = 0x2181 then [.wmLo]
  else if port = 0x2182 then [.wmMid]
  else [.wmHi]

/-- Those of an address. -/
def viewsAt (a : Addr) : List Drawn := if getTarget a = .wramPort then portViews (offsetOf a) else []

/-- A one-byte read (R70): a serviced one reads its memory cell or its views and writes the latch; one that is not serviced reads the
latch. -/
def Bus.readMarks (readable : Bool) (a : Addr) (b : Bus) (m : Marks) : Marks :=
  if (b.deviceRead readable false a).1.isSome then ((m.readCell (b.locate a)).read (viewsAt a)).write [.latch]
  else m.read [.latch]

/-- A one-byte write: it writes its memory cell or its view; one at WMDATA also reads all of `WmAddr` (R85). -/
def Bus.writeMarks (a : Addr) (b : Bus) (m : Marks) : Marks :=
  let m1 := if offsetOf a = 0x2180 then m.read (viewsAt a) else m
  (m1.write (viewsAt a)).writeCell (b.storeCell a)

/-! ## Instructions -/

/-- The bytes of A of a width. -/
def accumulatorBytes : Width → List Drawn
  | .w8 => [.aLo]
  | .w16 => [.aLo, .aHi]

/-- The flags a status byte or mask holds of those that are drawn, where the bit of the byte is 1. -/
def maskFlags (mask : Byte) : List Drawn :=
  (if mask.getLsbD 7 then [.n] else []) ++ (if mask.getLsbD 6 then [.v] else []) ++ (if mask.getLsbD 1 then [.z] else []) ++
  (if mask.getLsbD 0 then [.c] else [])

/-- The registers an addressing mode reads (R173 to R196). -/
def modeReads : Operand → List Drawn
  | .directX _ | .directXIndirect _ | .absoluteX _ | .absoluteLongX _ | .absoluteXIndirect _ => [.xLo]
  | .directY _ | .directIndirectY _ | .directIndirectLongY _ | .absoluteY _ => [.yLo]
  | .stackRelative _ => [.sLo]
  | .stackRelativeIndirectY _ => [.sLo, .yLo]
  | .implied | .impliedByte _ | .accumulator | .immediate _ | .direct _ | .directIndirect _ | .directIndirectLong _ | .absolute _
  | .absoluteLong _ | .absoluteIndirect _ | .absoluteIndirectLong _ | .relative _ | .relativeLong _ | .blockMove _ _ | .stack
  | .stackByte _ | .stackWord _ => []

/-- What an exception entry reads: S and the four drawn flags of the status image (R420). -/
def entryReads : List Drawn := [.sLo, .n, .v, .z, .c]

/-- The drawn values the operation of an instruction reads, its addressing mode apart, with the registers at decode. A part of a
register that the instruction keeps is not read. -/
def operationReads (i : Instr) (c : Cpu) : List Drawn :=
  let accumulator := if i.operand = .accumulator then accumulatorBytes c.mw else []
  match i.mnemonic with
  | .adc | .sbc => .c :: accumulatorBytes c.mw
  | .and | .ora | .eor | .cmp | .bit | .tsb | .trb | .sta => accumulatorBytes c.mw
  | .asl | .lsr | .inc | .dec => accumulator
  | .rol | .ror => .c :: accumulator
  | .stx | .cpx | .inx | .dex | .txa | .txy | .txs => [.xLo]
  | .sty | .cpy | .iny | .dey | .tya | .tyx => [.yLo]
  | .tax | .tay => accumulatorBytes c.xw
  | .tcs => if c.p.e then [.aLo] else [.aLo, .aHi]
  | .tcd | .xba => [.aLo, .aHi]
  | .tsc | .tsx => [.sLo]
  | .bcc | .bcs => [.c]
  | .beq | .bne => [.z]
  | .bmi | .bpl => [.n]
  | .bvc | .bvs => [.v]
  | .xce => [.c]
  | .php | .brk | .cop => entryReads
  | .pha => .sLo :: accumulatorBytes c.mw
  | .phx => [.sLo, .xLo]
  | .phy => [.sLo, .yLo]
  | .phb | .phd | .phk | .pea | .pei | .per | .pla | .plx | .ply | .plp | .plb | .pld | .jsr | .jsl | .rts | .rtl | .rti => [.sLo]
  | .mvn | .mvp => [.aLo, .aHi, .xLo, .yLo]
  | .lda | .ldx | .ldy | .stz | .tdc | .bra | .brl | .jmp | .jml | .clc | .cld | .cli | .clv | .sec | .sed | .sei | .rep | .sep
  | .nop | .wai | .stp | .wdm => []

/-- All the drawn registers and flags an instruction reads. -/
def drawnReads (i : Instr) (c : Cpu) : List Drawn := modeReads i.operand ++ operationReads i c

/-- The drawn registers and flags an instruction writes, with the registers at decode. -/
def drawnWrites (i : Instr) (c : Cpu) : List Drawn :=
  let accumulator := if i.operand = .accumulator then accumulatorBytes c.mw else []
  match i.mnemonic with
  | .lda | .and | .ora | .eor | .txa | .tya | .pla => [.n, .z] ++ accumulatorBytes c.mw
  | .adc | .sbc => [.n, .v, .z, .c] ++ accumulatorBytes c.mw
  | .ldx | .tax | .tyx | .tsx | .inx | .dex | .plx => [.n, .z, .xLo]
  | .ldy | .tay | .txy | .iny | .dey | .ply => [.n, .z, .yLo]
  | .tsc | .tdc | .xba => [.n, .z, .aLo, .aHi]
  | .tcd | .plb | .pld => [.n, .z]
  | .tcs | .txs => [.sLo]
  | .cmp | .cpx | .cpy => [.n, .z, .c]
  | .inc | .dec => [.n, .z] ++ accumulator
  | .asl | .lsr | .rol | .ror => [.n, .z, .c] ++ accumulator
  | .bit => if i.opcode = 0x89 then [.z] else [.n, .v, .z]
  | .tsb | .trb => [.z]
  | .clc | .sec | .xce => [.c]
  | .clv => [.v]
  | .plp | .rti => [.n, .v, .z, .c]
  | .rep | .sep =>
    match i with
    | .rep mask => maskFlags mask
    | .sep mask => maskFlags mask
    | _ => []
  | .mvn | .mvp => [.aLo, .aHi, .xLo, .yLo]
  | .sta | .stx | .sty | .stz | .bcc | .bcs | .beq | .bne | .bmi | .bpl | .bvc | .bvs | .bra | .brl | .jmp | .jml | .jsr | .jsl
  | .rts | .rtl | .cld | .cli | .sed | .sei | .php | .pha | .phx | .phy | .phb | .phd | .phk | .pea | .pei | .per | .brk | .cop
  | .nop | .wai | .stp | .wdm => []

/-- An instruction's reads and writes of registers and flags. -/
def State.noteInstr (i : Instr) (s : State) : State := s.note fun m => (m.read (drawnReads i s.cpu)).write (drawnWrites i s.cpu)

/-- The external agent's writes (R77): each listed cell, and all of `WmAddr` where it gives a value. -/
def agentMarks (inp : BoundaryInput) (m : Marks) : Marks :=
  let m1 := inp.agentWrites.foldl (fun m w => m.writeCell (some (.wram, w.1.toNat))) m
  if inp.agentWmAddr.isSome then m1.write [.wmLo, .wmMid, .wmHi] else m1

end Sys2Proof.Machine
end

