-- ==== Sys2Proof/Machine/Ops.lean ====
section
/-! DEFINITION. The named operations over memory and registers: the CPU's bus accesses (spec/20_memory.md R64 to R66), the stack
(spec/44_stack.md R340 to R342), taking an exception and returning from one (spec/60_exceptions.md R420, R423), the reset
sequence (spec/70_reset_and_hazards.md R460) and the end of an instruction (spec/30_encoding.md R136, R150). -/

namespace Sys2Proof.Machine

/-- The outcome of a meaning. -/
abbrev Result := Host.Outcome State Fault Refusal

/-- Change the registers only. -/
def State.mapCpu (f : Cpu → Cpu) (s : State) : State := { s with cpu := f s.cpu }

/-! ## Bus accesses -/

/-- `MemRead8` (R64). -/
def State.read8 (a : Addr) (s : State) : Byte × State :=
  let r := s.bus.read s.params.wmaddReadable false a
  (r.1, { s with bus := r.2, marks := s.marksAfter (s.bus.readMarks s.params.wmaddReadable a) })

/-- `MemWrite8` (R65). -/
def State.write8 (a : Addr) (v : Byte) (s : State) : State :=
  { s with bus := s.bus.write a v, marks := s.marksAfter (s.bus.writeMarks a) }

/-- Two bytes read in order from two addresses, the first the less significant (R61, R67). -/
def State.read16At (lo hi : Addr) (s : State) : Word × State :=
  let l := s.read8 lo
  let h := l.2.read8 hi
  (wordOf h.1 l.1, h.2)

/-- A 16-bit pointer or vector in one bank, the offset wrapping within the bank (R188, R190, R421). -/
def State.readPtr (bank : Byte) (off : Word) (s : State) : Word × State :=
  s.read16At (addr24 bank off) (addr24 bank (off + 1))

/-! ## The stack (R340 to R342) -/

/-- S after a push (R340). -/
def Cpu.stackDown (noWrap : Bool) (c : Cpu) : Cpu :=
  { c with s := if c.p.e && !noWrap then pageOne (c.s - 1) else c.s - 1 }

/-- S after a pull's increment (R341). -/
def Cpu.stackUp (noWrap : Bool) (c : Cpu) : Cpu :=
  { c with s := if c.p.e && !noWrap then pageOne (c.s + 1) else c.s + 1 }

/-- `Push8(v)` (R340). -/
def State.push8 (noWrap : Bool) (v : Byte) (s : State) : State :=
  (s.write8 (addr24 0 s.cpu.s) v).mapCpu (Cpu.stackDown noWrap)

/-- `Pull8()` (R341). -/
def State.pull8 (noWrap : Bool) (s : State) : Byte × State :=
  let t := s.mapCpu (Cpu.stackUp noWrap)
  t.read8 (addr24 0 t.cpu.s)

/-- `Push16(v)`: the high byte first (R342). -/
def State.push16 (noWrap : Bool) (v : Word) (s : State) : State :=
  (s.push8 noWrap (wordHi v)).push8 noWrap (wordLo v)

/-- `Pull16()`: the low byte first (R342). -/
def State.pull16 (noWrap : Bool) (s : State) : Word × State :=
  let l := s.pull8 noWrap
  let h := l.2.pull8 noWrap
  (wordOf h.1 l.1, h.2)

/-- Push a value of a width (R343 to R345). -/
def State.pushW (noWrap : Bool) (w : Width) (v : Word) (s : State) : State :=
  match w with
  | .w8 => s.push8 noWrap (wordLo v)
  | .w16 => s.push16 noWrap v

/-- Pull a value of a width (R350 to R352). -/
def State.pullW (noWrap : Bool) (w : Width) (s : State) : Word × State :=
  match w with
  | .w8 =>
    let r := s.pull8 noWrap
    (byteWord r.1, r.2)
  | .w16 => s.pull16 noWrap

/-- The end of an instruction free of the page-1 wrap: in emulation mode S.h becomes 0x01 again (R340). -/
def Cpu.restoreStackPage (noWrap : Bool) (c : Cpu) : Cpu :=
  if c.p.e && noWrap then { c with s := pageOne c.s } else c

/-! ## The end of an instruction -/

/-- The sequential next PC (R136). -/
def nextPc (op : Byte) (c : Cpu) : Word := c.pc + BitVec.ofNat 16 (totalFetchBytes c.widths op)

/-- Add the instruction's cycles; `s0` is the state at decode (R150). -/
def State.charge (op : Byte) (pageCross taken : Bool) (target : Word) (s0 s : State) : State :=
  { s with cycles := s.cycles + totalCycles s0.params s0.cpu (opRecord op) pageCross taken target (nextPc op s0.cpu) }

/-- End an instruction that does not write PC: PC takes nextPC (R136). -/
def State.retire (op : Byte) (pageCross : Bool) (s0 s : State) : State :=
  (State.charge op pageCross false 0 s0 s).mapCpu fun c => { c with pc := nextPc op s0.cpu }

/-- End an instruction that writes PC. -/
def State.retireAt (op : Byte) (target : Word) (s0 s : State) : State :=
  (State.charge op false false target s0 s).mapCpu fun c => { c with pc := target }

/-- Remember P.I from before one of the six instructions of R418. -/
def State.markMask (s0 s : State) : State := { s with iBefore := some s0.cpu.p.i }

/-! ## Taking an exception, and returning from one -/

/-- The entry sequence shared by BRK, COP, NMI and IRQ (R384, R385, R420): push PB in native mode, the return offset and the status
image, set I, clear D, enter bank 0 at the vector's word. -/
def State.enterException (noWrap : Bool) (ret : Word) (image : Byte) (vector : Word) (s : State) : State :=
  let s1 := if s.cpu.p.e then s else s.push8 noWrap s.cpu.pb
  let s2 := (s1.push16 noWrap ret).push8 noWrap image
  let s3 := s2.mapCpu fun c => { c with pb := 0, p := { c.p with i := true, d := false } }
  let v := s3.readPtr 0 vector
  v.2.mapCpu fun c => { c with pc := v.1 }.restoreStackPage noWrap

/-- The vector of a software or hardware interrupt (R421). RESET's is always 0xFFFC; emulation BRK shares IRQ's. -/
def vectorAddress (emulation : Bool) : VectorKind → Word
  | .cop => if emulation then 0xFFF4 else 0xFFE4
  | .brk => if emulation then 0xFFFE else 0xFFE6
  | .abort => if emulation then 0xFFF8 else 0xFFE8
  | .nmi => if emulation then 0xFFFA else 0xFFEA
  | .reset => 0xFFFC
  | .irq => if emulation then 0xFFFE else 0xFFEE

/-- The status image of a hardware interrupt: B is 0 in emulation mode (R44, R420). -/
def hardwareImage (p : Status) : Byte := if p.e then p.toByte &&& 0xEF else p.toByte

/-- `Interrupt(kind)` for NMI and IRQ (R420). -/
def State.interrupt (kind : VectorKind) (s : State) : State :=
  let t := s.enterException s.params.noWrapInt s.cpu.pc (hardwareImage s.cpu.p) (vectorAddress s.cpu.p.e kind)
  { t with cycles := t.cycles + interruptCycles s.cpu }

/-- The return sequence of RTI (R386, R423). -/
def State.returnFromException (noWrap : Bool) (s : State) : State :=
  let p := s.pull8 noWrap
  let s1 := p.2.mapCpu fun c => c.pullStatus p.1
  let pc := s1.pull16 noWrap
  let s2 := pc.2.mapCpu fun c => { c with pc := pc.1 }
  let s3 :=
    if s2.cpu.p.e then s2
    else
      let b := s2.pull8 noWrap
      b.2.mapCpu fun c => { c with pb := b.1 }
  s3.mapCpu (Cpu.restoreStackPage noWrap)

/-! ## Reset (R460) -/

/-- The registers the reset sequence writes before it reads the vector. -/
def Cpu.resetRegisters (c : Cpu) : Cpu :=
  { c with
    x := c.x &&& 0x00FF, y := c.y &&& 0x00FF, s := pageOne c.s, d := 0, db := 0, pb := 0
    p := { c.p with e := true, m := true, x := true, i := true, d := false } }

/-- `Reset()` (R460); `nmi` is the NMI input at this boundary. -/
def State.resetSequence (nmi : Bool) (s : State) : State :=
  let s1 := { s.mapCpu Cpu.resetRegisters with nmiPending := false, nmiPrev := nmi, run := .running, iBefore := none }
  let v := s1.readPtr 0 (vectorAddress true .reset)
  v.2.mapCpu fun c => { c with pc := v.1 }

/-- Take the next boundary's input; past the end of the list every line is deasserted (R411, log 10). -/
def State.takeInput (s : State) : BoundaryInput × State :=
  match s.inputs with
  | [] => ({}, s)
  | h :: t => (h, { s with inputs := t })

/-- Power-on with a cartridge file (R462, R464): construction, then the reset sequence once, "as if `RESET_LINE` were asserted at
boundary 0": it takes that boundary's input, whose NMI line becomes `nmi_prev`. `none` is FormatError. -/
def State.boot (img : RomImage) (s : State) : Option State :=
  (constructCartridge img).map fun cart =>
    let i := State.takeInput { s with bus := { s.bus with cart := some cart } }
    i.2.resetSequence i.1.nmi

end Sys2Proof.Machine
end

