-- ==== Sys2Proof/Machine/Operands.lean ====
section
/-! DEFINITION. Addressing modes and effective addresses, and the reads, stores and read-modify-writes at them
(spec/40_addressing.md R170 to R199). -/

namespace Sys2Proof.Machine

/-! ## Effective addresses (R170 to R172) -/

/-- Where the second byte of a 16-bit access lies (R170). -/
inductive Wrap where
  | linear | inBank
  deriving DecidableEq, Repr

/-- An effective address (R170). -/
structure EA where
  addr : Addr
  wrap : Wrap
  deriving DecidableEq, Repr

/-- The address of the second byte (R170). -/
def EA.next (ea : EA) : Addr :=
  match ea.wrap with
  | .linear => ea.addr + 1
  | .inBank => addr24 (bankOf ea.addr) (offsetOf ea.addr + 1)

/-- An address in bank 0, wrapping in the bank (R172). -/
def zeroBank (off : Word) : EA := ⟨addr24 0 off, .inBank⟩

/-- A data-bank address without an index (R172, R179, R184). -/
def dataBank (p : Params) (db : Byte) (off : Word) : EA :=
  ⟨addr24 db off, if p.indexBankCarry then .linear else .inBank⟩

/-- A data-bank address with an index (R180, R185, R192). -/
def dataBankIndexed (p : Params) (db : Byte) (off index : Word) : EA :=
  if p.indexBankCarry then ⟨addr24 db off + index.setWidth 24, .linear⟩ else ⟨addr24 db (off + index), .inBank⟩

/-- `DPAddr(k, legacy)` (R175): its offset in bank 0. -/
def Cpu.dpOffset (c : Cpu) (k : Word) (legacy : Bool) : Word :=
  if legacy && c.p.e && (c.d &&& 0x00FF == 0) then (c.d &&& 0xFF00) ||| (k &&& 0x00FF) else c.d + k

/-- `DPAddr(k, legacy)` (R175). -/
def Cpu.dpAddr (c : Cpu) (k : Word) (legacy : Bool) : Addr := addr24 0 (c.dpOffset k legacy)

/-! ## Pointers (R179 to R183, R192) -/

/-- A 16-bit direct-page pointer (R179 to R181). -/
def State.dpPointer (k : Word) (s : State) : Word × State :=
  s.read16At (s.cpu.dpAddr k true) (s.cpu.dpAddr (k + 1) true)

/-- Three bytes read in order, the last the bank (R182, R189). -/
def State.read24At (a0 a1 a2 : Addr) (s : State) : Addr × State :=
  let lo := s.read16At a0 a1
  let hi := lo.2.read8 a2
  (addr24 hi.1 lo.1, hi.2)

/-- A 24-bit direct-page pointer (R182). -/
def State.dpLongPointer (k : Word) (s : State) : Addr × State :=
  s.read24At (s.cpu.dpAddr k false) (s.cpu.dpAddr (k + 1) false) (s.cpu.dpAddr (k + 2) false)

/-! ## Mode by mode (R173 to R196) -/

/-- What a mode resolves to: the effective address, the address before the index of the modes that test a page crossing (R152), and
the state after the pointer reads. -/
structure Resolved where
  ea   : EA
  base : Addr
  st   : State
  deriving DecidableEq, Repr

/-- An effective address that is its own base. -/
def Resolved.plain (ea : EA) (s : State) : Resolved := ⟨ea, ea.addr, s⟩

/-- The effective address of an operand (R173 to R196); `get_addr` is its `ea.addr`. Implied, Accumulator, Stack and BlockMove give
the degenerate address 0 (R170). PER is an instruction of the Stack mode, so its `get_addr` is 0 as R196 says, where R194 gives PER the
address PB : target (DESIGN CHOICE, log 25: the rules disagree). The pointer of `[addr]` wraps within bank 0, as R189 says, where R66
runs on (DESIGN CHOICE, log 20). -/
def resolve : Operand → State → Resolved
  | .implied, s => .plain ⟨0, .linear⟩ s
  | .impliedByte _, s => .plain ⟨0, .linear⟩ s
  | .accumulator, s => .plain ⟨0, .linear⟩ s
  | .immediate _, s => .plain ⟨addr24 s.cpu.pb (s.cpu.pc + 1), .inBank⟩ s
  | .direct dp, s => .plain (zeroBank (s.cpu.dpOffset (byteWord dp) true)) s
  | .directX dp, s => .plain (zeroBank (s.cpu.dpOffset (byteWord dp + s.cpu.x) true)) s
  | .directY dp, s => .plain (zeroBank (s.cpu.dpOffset (byteWord dp + s.cpu.y) true)) s
  | .directIndirect dp, s =>
    let p := s.dpPointer (byteWord dp)
    .plain (dataBank s.params s.cpu.db p.1) p.2
  | .directXIndirect dp, s =>
    let p := s.dpPointer (byteWord dp + s.cpu.x)
    .plain (dataBank s.params s.cpu.db p.1) p.2
  | .directIndirectY dp, s =>
    let p := s.dpPointer (byteWord dp)
    ⟨dataBankIndexed s.params s.cpu.db p.1 s.cpu.y, addr24 s.cpu.db p.1, p.2⟩
  | .directIndirectLong dp, s =>
    let p := s.dpLongPointer (byteWord dp)
    .plain ⟨p.1, .linear⟩ p.2
  | .directIndirectLongY dp, s =>
    let p := s.dpLongPointer (byteWord dp)
    .plain ⟨p.1 + s.cpu.y.setWidth 24, .linear⟩ p.2
  | .absolute a, s => .plain (dataBank s.params s.cpu.db a) s
  | .absoluteX a, s => ⟨dataBankIndexed s.params s.cpu.db a s.cpu.x, addr24 s.cpu.db a, s⟩
  | .absoluteY a, s => ⟨dataBankIndexed s.params s.cpu.db a s.cpu.y, addr24 s.cpu.db a, s⟩
  | .absoluteLong a, s => .plain ⟨a, .linear⟩ s
  | .absoluteLongX a, s => .plain ⟨a + s.cpu.x.setWidth 24, .linear⟩ s
  | .absoluteIndirect a, s =>
    let p := s.readPtr 0 a
    .plain ⟨addr24 s.cpu.pb p.1, .inBank⟩ p.2
  | .absoluteIndirectLong a, s =>
    let p := s.read24At (addr24 0 a) (addr24 0 (a + 1)) (addr24 0 (a + 2))
    .plain ⟨p.1, .linear⟩ p.2
  | .absoluteXIndirect a, s =>
    let p := s.readPtr s.cpu.pb (a + s.cpu.x)
    .plain ⟨addr24 s.cpu.pb p.1, .inBank⟩ p.2
  | .stackRelative sr, s => .plain (zeroBank (s.cpu.s + byteWord sr)) s
  | .stackRelativeIndirectY sr, s =>
    let p := s.readPtr 0 (s.cpu.s + byteWord sr)
    ⟨dataBankIndexed s.params s.cpu.db p.1 s.cpu.y, addr24 s.cpu.db p.1, p.2⟩
  | .relative rel, s => .plain ⟨addr24 s.cpu.pb (s.cpu.pc + 2 + rel.signExtend 16), .inBank⟩ s
  | .relativeLong rel, s => .plain ⟨addr24 s.cpu.pb (s.cpu.pc + 3 + rel), .inBank⟩ s
  | .blockMove _ _, s => .plain ⟨0, .linear⟩ s
  | .stack, s => .plain ⟨0, .linear⟩ s
  | .stackByte _, s => .plain ⟨0, .linear⟩ s
  | .stackWord _, s => .plain ⟨0, .linear⟩ s

/-- `pageCross` (R152): the base and the effective address lie in different pages. -/
def Resolved.pageCross (r : Resolved) : Bool := r.base >>> 8 != r.ea.addr >>> 8

/-! ## Data access at an effective address (R171) -/

/-- `ReadEA(ea, w)`: low byte first. -/
def State.readEA (ea : EA) (w : Width) (s : State) : Word × State :=
  match w with
  | .w8 =>
    let r := s.read8 ea.addr
    (byteWord r.1, r.2)
  | .w16 => s.read16At ea.addr ea.next

/-- `WriteEA(ea, w, v)`: low byte first. -/
def State.writeEA (ea : EA) (w : Width) (v : Word) (s : State) : State :=
  match w with
  | .w8 => s.write8 ea.addr (wordLo v)
  | .w16 => (s.write8 ea.addr (wordLo v)).write8 ea.next (wordHi v)

/-- `WriteEA_RMW(ea, w, v)`: high byte first. -/
def State.writeRMW (ea : EA) (w : Width) (v : Word) (s : State) : State :=
  match w with
  | .w8 => s.write8 ea.addr (wordLo v)
  | .w16 => (s.write8 ea.next (wordHi v)).write8 ea.addr (wordLo v)

/-! ## Operand helpers (R197 to R199) -/

/-- The value of an immediate, zero-extended (R137). -/
def Imm.value : Imm → Word
  | .byte v => byteWord v
  | .word v => v

/-- What reading an operand gives. -/
structure OperandRead where
  value     : Word
  pageCross : Bool
  st        : State
  deriving DecidableEq, Repr

/-- `Operand(w)` (R197). -/
def readOperand (o : Operand) (w : Width) (s : State) : OperandRead :=
  match o with
  | .immediate imm => ⟨w.trunc (Imm.value imm), false, s⟩
  | o =>
    let r := resolve o s
    let v := r.st.readEA r.ea w
    ⟨v.1, r.pageCross, v.2⟩

/-- What a read-modify-write gives: the value read, the value written, the state. -/
structure RmwResult where
  old : Word
  new : Word
  st  : State
  deriving DecidableEq, Repr

/-- `RMW(w, f)` (R198): on the accumulator, or on memory with the high byte written first. -/
def rmw (o : Operand) (w : Width) (f : Word → Word) (s : State) : RmwResult :=
  match o with
  | .accumulator =>
    let v := s.cpu.getA w
    ⟨v, w.trunc (f v), s.mapCpu fun c => c.setA w (w.trunc (f v))⟩
  | o =>
    let r := resolve o s
    let v := r.st.readEA r.ea w
    ⟨v.1, w.trunc (f v.1), v.2.writeRMW r.ea w (w.trunc (f v.1))⟩

/-- A store of a value of a width (R199). -/
def storeOperand (o : Operand) (w : Width) (v : Word) (s : State) : State :=
  let r := resolve o s
  r.st.writeEA r.ea w v

end Sys2Proof.Machine
end

