-- ==== Sys2Proof/Machine/Flags.lean ====
section
/-! DEFINITION. The arithmetic, compare, logic and shift computations with the flags they write (spec/42_arith_logic.md). -/

namespace Sys2Proof.Machine

/-! ## Add and subtract (R250, R251) -/

/-- Result, carry and overflow of a sum. -/
structure SumResult where
  value    : Word
  carry    : Bool
  overflow : Bool
  deriving DecidableEq, Repr

/-- The overflow of R250: `msb(~(a ^ b) & (a ^ r), w)`, with `r` before any truncation. -/
def sumOverflow (w : Width) (a b : Word) (r : Int) : Bool :=
  (w.msb a == w.msb b) && (w.msb a != r.toNat.testBit (8 * w.bytes - 1))

/-- The binary sum of AddCore (R250). -/
def binarySum (w : Width) (a b : Word) (cin : Bool) : SumResult :=
  let r := a.toNat + b.toNat + cin.toNat
  ⟨w.trunc (BitVec.ofNat 16 r), decide (w.mask.toNat < r), sumOverflow w a b r⟩

/-- The running values of the decimal loop: the sum and the carry of the nibble just done, and the overflow of the last. -/
structure DecimalAcc where
  r        : Int
  carry    : Bool
  overflow : Bool
  deriving DecidableEq, Repr

/-- Nibble `i` of the decimal loop (R250), `u = 16^i`. -/
def decimalNibble (w : Width) (sub : Bool) (a b : Word) (i : Nat) (acc : DecimalAcc) : DecimalAcc :=
  let u : Nat := 16 ^ i
  let na : Int := ((a.toNat / u % 16) * u : Nat)
  let nb : Int := ((b.toNat / u % 16) * u : Nat)
  let r : Int := na + nb + (acc.carry.toNat * u : Nat) + acc.r % (u : Int)
  let v := sumOverflow w a b r
  let r' : Int :=
    if sub then (if r < ((16 * u : Nat) : Int) then r - (6 * u : Nat) else r)
    else if ((10 * u : Nat) : Int) ≤ r then r + (6 * u : Nat) else r
  ⟨r', decide (((16 * u : Nat) : Int) ≤ r'), v⟩

/-- The decimal loop of AddCore from nibble `i` on, for `n` nibbles (R250). -/
def decimalLoop (w : Width) (sub : Bool) (a b : Word) : Nat → Nat → DecimalAcc → DecimalAcc
  | _, 0, acc => acc
  | i, n + 1, acc => decimalLoop w sub a b (i + 1) n (decimalNibble w sub a b i acc)

/-- The decimal sum of AddCore (R250). -/
def decimalSum (w : Width) (sub : Bool) (a b : Word) (cin : Bool) : SumResult :=
  let acc := decimalLoop w sub a b 0 (2 * w.bytes) ⟨0, cin, false⟩
  ⟨w.trunc (BitVec.ofInt 16 acc.r), acc.carry, acc.overflow⟩

/-- `AddCore(a, b, cin, w, sub)` (R250). -/
def addCore (decimal : Bool) (w : Width) (sub : Bool) (a b : Word) (cin : Bool) : SumResult :=
  if decimal then decimalSum w sub a b cin else binarySum w a b cin

/-- Every nibble of a value of a width is a decimal digit (R250). -/
def isBcd (w : Width) (v : Word) : Bool :=
  (List.range (2 * w.bytes)).all fun i => decide (v.toNat / 16 ^ i % 16 ≤ 9)

/-- `~w(v)`: the complement within the width. -/
def Width.complement (w : Width) (v : Word) : Word := v ^^^ w.mask

/-- Write the result and the flags of ADC and SBC (R250). -/
def Cpu.storeSum (w : Width) (r : SumResult) (c : Cpu) : Cpu :=
  let c' := (c.setA w r.value).setNZ r.value w
  { c' with p := { c'.p with c := r.carry, v := r.overflow } }

/-- The sum ADC (`sub` false) and SBC (`sub` true) form of A and an operand `m`. -/
def adderSum (w : Width) (sub : Bool) (m : Word) (c : Cpu) : SumResult :=
  addCore c.p.d w sub (c.getA w) (if sub then w.complement m else m) c.p.c

/-- Whether the sum is the draw of `DECIMAL_NONBCD = DRAW` (R250). -/
def drawsSum (p : Params) (w : Width) (m : Word) (c : Cpu) : Bool :=
  decide (p.decimalNonBcd = .draw) && c.p.d && !(isBcd w (c.getA w) && isBcd w m)

/-- ADC and SBC on an operand `m` (R250, R251). A draw takes the next free value, and N and Z follow it (log 9). -/
def State.addTo (w : Width) (sub : Bool) (m : Word) (s : State) : State :=
  if drawsSum s.params w m s.cpu then
    let f := Config.decimalDraw s.draws
    { s.mapCpu (Cpu.storeSum w ⟨w.trunc f.1, f.2.1, f.2.2⟩) with draws := s.draws + 1 }
  else s.mapCpu (Cpu.storeSum w (adderSum w sub m s.cpu))

/-! ## Compare (R252 to R254) -/

/-- CMP, CPX and CPY of a register value `a` with an operand `m`: unsigned and binary. -/
def Cpu.compare (w : Width) (a m : Word) (c : Cpu) : Cpu :=
  let c' := c.setNZ (w.trunc (a - m)) w
  { c' with p := { c'.p with c := decide (m.toNat ≤ a.toNat) } }

/-! ## Loads and logic (R210, R255 to R258) -/

/-- Write A and the flags N and Z. -/
def Cpu.loadA (w : Width) (v : Word) (c : Cpu) : Cpu := (c.setA w v).setNZ v w

/-- Write X and the flags N and Z. -/
def Cpu.loadX (w : Width) (v : Word) (c : Cpu) : Cpu := (c.setX w v).setNZ v w

/-- Write Y and the flags N and Z. -/
def Cpu.loadY (w : Width) (v : Word) (c : Cpu) : Cpu := (c.setY w v).setNZ v w

/-- Z from the AND of A with an operand (R258, R269, R270). N stays: the "Flags" lines of those three rules name Z alone for BIT #, TSB
and TRB, where R39 has N written wherever Z is (DESIGN CHOICE, log 19: the rules disagree, the instruction's own is followed). -/
def Cpu.testZ (w : Width) (m : Word) (c : Cpu) : Cpu := { c with p := { c.p with z := c.getA w &&& m == 0 } }

/-- BIT with a memory operand: Z from the AND, N and V from the operand (R258). -/
def Cpu.bitMemory (w : Width) (m : Word) (c : Cpu) : Cpu :=
  let c' := c.testZ w m
  { c' with p := { c'.p with n := w.msb m, v := w.msb2 m } }

/-! ## Shifts and rotates (R265 to R268) -/

/-- ASL's update. -/
def shiftLeft (v : Word) : Word := v <<< 1

/-- LSR's update. -/
def shiftRight (v : Word) : Word := v >>> 1

/-- ROL's update with the carry in. -/
def rotateLeft (cin : Bool) (v : Word) : Word := (v <<< 1) ||| BitVec.ofNat 16 cin.toNat

/-- ROR's update with the carry in, at a width. -/
def rotateRight (w : Width) (cin : Bool) (v : Word) : Word := (v >>> 1) ||| (BitVec.ofNat 16 cin.toNat <<< (8 * w.bytes - 1))

/-- N and Z of a result and a carry. -/
def Cpu.setNZC (r : Word) (w : Width) (carry : Bool) (c : Cpu) : Cpu :=
  let c' := c.setNZ r w
  { c' with p := { c'.p with c := carry } }

end Sys2Proof.Machine
end

