-- ==== Sys2Proof/Machine/Forms.lean ====
section
/-! DEFINITION. The instruction shapes the families share: a register-only instruction, one that reads an operand, one that stores,
one that reads, modifies and writes, and one that uses the stack (spec/40_addressing.md R197 to R199, spec/30_encoding.md R136). -/

namespace Sys2Proof.Machine

/-- An instruction that touches registers only. -/
def impliedInstr (op : Byte) (f : Cpu → Cpu) (s : State) : State :=
  State.retire op false s (s.mapCpu f)

/-- An instruction that reads an operand of a width and then acts (R197). -/
def readInstr (op : Byte) (o : Operand) (w : Width) (f : Word → State → State) (s : State) : State :=
  let r := readOperand o w s
  State.retire op r.pageCross s (f r.value r.st)

/-- An instruction that stores a value of a width (R199). -/
def storeInstr (op : Byte) (o : Operand) (w : Width) (v : Word) (s : State) : State :=
  State.retire op false s (storeOperand o w v s)

/-- An instruction that reads, modifies and writes an operand, then writes registers from the old and the new value (R198). -/
def rmwInstr (op : Byte) (o : Operand) (w : Width) (f : Word → Word) (g : Word → Word → Cpu → Cpu) (s : State) : State :=
  let r := rmw o w f s
  State.retire op false s (r.st.mapCpu (g r.old r.new))

/-- An instruction that uses the stack: `f` is given whether its accesses are free of the page-1 wrap (R340). -/
def stackInstr (op : Byte) (f : Bool → State → State) (s : State) : State :=
  let nw := noWrapOf s.params op
  State.retire op false s ((f nw s).mapCpu (Cpu.restoreStackPage nw))

end Sys2Proof.Machine
end

