-- ==== Sys2Proof/Machine/Arith.lean ====
section
/-! DEFINITION. Add, subtract and compare (spec/42_arith_logic.md R250 to R254). -/

namespace Sys2Proof.Machine

/-- ADC (R250). -/
def adc (op : Byte) (o : Operand) (s : State) : State :=
  readInstr op o s.cpu.mw (fun m t => t.addTo s.cpu.mw false m) s

/-- 0x61 `ADC (dp,X)` (R250). -/
def execAdcIndX (dp : Byte) (s : State) : Result := .next (adc 0x61 (.directXIndirect dp) s)

/-- 0x63 `ADC sr,S` (R250). -/
def execAdcSr (sr : Byte) (s : State) : Result := .next (adc 0x63 (.stackRelative sr) s)

/-- 0x65 `ADC dp` (R250). -/
def execAdcDir (dp : Byte) (s : State) : Result := .next (adc 0x65 (.direct dp) s)

/-- 0x67 `ADC [dp]` (R250). -/
def execAdcIndLong (dp : Byte) (s : State) : Result := .next (adc 0x67 (.directIndirectLong dp) s)

/-- 0x69 `ADC #const` (R250). -/
def execAdcImm (imm : Imm) (s : State) : Result := .next (adc 0x69 (.immediate imm) s)

/-- 0x6D `ADC addr` (R250). -/
def execAdcAbs (addr : Word) (s : State) : Result := .next (adc 0x6D (.absolute addr) s)

/-- 0x6F `ADC long` (R250). -/
def execAdcLong (long : Addr) (s : State) : Result := .next (adc 0x6F (.absoluteLong long) s)

/-- 0x71 `ADC (dp),Y` (R250). -/
def execAdcIndY (dp : Byte) (s : State) : Result := .next (adc 0x71 (.directIndirectY dp) s)

/-- 0x72 `ADC (dp)` (R250). -/
def execAdcInd (dp : Byte) (s : State) : Result := .next (adc 0x72 (.directIndirect dp) s)

/-- 0x73 `ADC (sr,S),Y` (R250). -/
def execAdcSrIndY (sr : Byte) (s : State) : Result := .next (adc 0x73 (.stackRelativeIndirectY sr) s)

/-- 0x75 `ADC dp,X` (R250). -/
def execAdcDirX (dp : Byte) (s : State) : Result := .next (adc 0x75 (.directX dp) s)

/-- 0x77 `ADC [dp],Y` (R250). -/
def execAdcIndLongY (dp : Byte) (s : State) : Result := .next (adc 0x77 (.directIndirectLongY dp) s)

/-- 0x79 `ADC addr,Y` (R250). -/
def execAdcAbsY (addr : Word) (s : State) : Result := .next (adc 0x79 (.absoluteY addr) s)

/-- 0x7D `ADC addr,X` (R250). -/
def execAdcAbsX (addr : Word) (s : State) : Result := .next (adc 0x7D (.absoluteX addr) s)

/-- 0x7F `ADC long,X` (R250). -/
def execAdcLongX (long : Addr) (s : State) : Result := .next (adc 0x7F (.absoluteLongX long) s)

/-- SBC (R251). -/
def sbc (op : Byte) (o : Operand) (s : State) : State :=
  readInstr op o s.cpu.mw (fun m t => t.addTo s.cpu.mw true m) s

/-- 0xE1 `SBC (dp,X)` (R251). -/
def execSbcIndX (dp : Byte) (s : State) : Result := .next (sbc 0xE1 (.directXIndirect dp) s)

/-- 0xE3 `SBC sr,S` (R251). -/
def execSbcSr (sr : Byte) (s : State) : Result := .next (sbc 0xE3 (.stackRelative sr) s)

/-- 0xE5 `SBC dp` (R251). -/
def execSbcDir (dp : Byte) (s : State) : Result := .next (sbc 0xE5 (.direct dp) s)

/-- 0xE7 `SBC [dp]` (R251). -/
def execSbcIndLong (dp : Byte) (s : State) : Result := .next (sbc 0xE7 (.directIndirectLong dp) s)

/-- 0xE9 `SBC #const` (R251). -/
def execSbcImm (imm : Imm) (s : State) : Result := .next (sbc 0xE9 (.immediate imm) s)

/-- 0xED `SBC addr` (R251). -/
def execSbcAbs (addr : Word) (s : State) : Result := .next (sbc 0xED (.absolute addr) s)

/-- 0xEF `SBC long` (R251). -/
def execSbcLong (long : Addr) (s : State) : Result := .next (sbc 0xEF (.absoluteLong long) s)

/-- 0xF1 `SBC (dp),Y` (R251). -/
def execSbcIndY (dp : Byte) (s : State) : Result := .next (sbc 0xF1 (.directIndirectY dp) s)

/-- 0xF2 `SBC (dp)` (R251). -/
def execSbcInd (dp : Byte) (s : State) : Result := .next (sbc 0xF2 (.directIndirect dp) s)

/-- 0xF3 `SBC (sr,S),Y` (R251). -/
def execSbcSrIndY (sr : Byte) (s : State) : Result := .next (sbc 0xF3 (.stackRelativeIndirectY sr) s)

/-- 0xF5 `SBC dp,X` (R251). -/
def execSbcDirX (dp : Byte) (s : State) : Result := .next (sbc 0xF5 (.directX dp) s)

/-- 0xF7 `SBC [dp],Y` (R251). -/
def execSbcIndLongY (dp : Byte) (s : State) : Result := .next (sbc 0xF7 (.directIndirectLongY dp) s)

/-- 0xF9 `SBC addr,Y` (R251). -/
def execSbcAbsY (addr : Word) (s : State) : Result := .next (sbc 0xF9 (.absoluteY addr) s)

/-- 0xFD `SBC addr,X` (R251). -/
def execSbcAbsX (addr : Word) (s : State) : Result := .next (sbc 0xFD (.absoluteX addr) s)

/-- 0xFF `SBC long,X` (R251). -/
def execSbcLongX (long : Addr) (s : State) : Result := .next (sbc 0xFF (.absoluteLongX long) s)

/-- CMP (R252). -/
def cmp (op : Byte) (o : Operand) (s : State) : State :=
  readInstr op o s.cpu.mw (fun m t => t.mapCpu (Cpu.compare s.cpu.mw (s.cpu.getA s.cpu.mw) m)) s

/-- 0xC1 `CMP (dp,X)` (R252). -/
def execCmpIndX (dp : Byte) (s : State) : Result := .next (cmp 0xC1 (.directXIndirect dp) s)

/-- 0xC3 `CMP sr,S` (R252). -/
def execCmpSr (sr : Byte) (s : State) : Result := .next (cmp 0xC3 (.stackRelative sr) s)

/-- 0xC5 `CMP dp` (R252). -/
def execCmpDir (dp : Byte) (s : State) : Result := .next (cmp 0xC5 (.direct dp) s)

/-- 0xC7 `CMP [dp]` (R252). -/
def execCmpIndLong (dp : Byte) (s : State) : Result := .next (cmp 0xC7 (.directIndirectLong dp) s)

/-- 0xC9 `CMP #const` (R252). -/
def execCmpImm (imm : Imm) (s : State) : Result := .next (cmp 0xC9 (.immediate imm) s)

/-- 0xCD `CMP addr` (R252). -/
def execCmpAbs (addr : Word) (s : State) : Result := .next (cmp 0xCD (.absolute addr) s)

/-- 0xCF `CMP long` (R252). -/
def execCmpLong (long : Addr) (s : State) : Result := .next (cmp 0xCF (.absoluteLong long) s)

/-- 0xD1 `CMP (dp),Y` (R252). -/
def execCmpIndY (dp : Byte) (s : State) : Result := .next (cmp 0xD1 (.directIndirectY dp) s)

/-- 0xD2 `CMP (dp)` (R252). -/
def execCmpInd (dp : Byte) (s : State) : Result := .next (cmp 0xD2 (.directIndirect dp) s)

/-- 0xD3 `CMP (sr,S),Y` (R252). -/
def execCmpSrIndY (sr : Byte) (s : State) : Result := .next (cmp 0xD3 (.stackRelativeIndirectY sr) s)

/-- 0xD5 `CMP dp,X` (R252). -/
def execCmpDirX (dp : Byte) (s : State) : Result := .next (cmp 0xD5 (.directX dp) s)

/-- 0xD7 `CMP [dp],Y` (R252). -/
def execCmpIndLongY (dp : Byte) (s : State) : Result := .next (cmp 0xD7 (.directIndirectLongY dp) s)

/-- 0xD9 `CMP addr,Y` (R252). -/
def execCmpAbsY (addr : Word) (s : State) : Result := .next (cmp 0xD9 (.absoluteY addr) s)

/-- 0xDD `CMP addr,X` (R252). -/
def execCmpAbsX (addr : Word) (s : State) : Result := .next (cmp 0xDD (.absoluteX addr) s)

/-- 0xDF `CMP long,X` (R252). -/
def execCmpLongX (long : Addr) (s : State) : Result := .next (cmp 0xDF (.absoluteLongX long) s)

/-- CPX (R253). -/
def cpx (op : Byte) (o : Operand) (s : State) : State :=
  readInstr op o s.cpu.xw (fun m t => t.mapCpu (Cpu.compare s.cpu.xw (s.cpu.getX s.cpu.xw) m)) s

/-- 0xE0 `CPX #const` (R253). -/
def execCpxImm (imm : Imm) (s : State) : Result := .next (cpx 0xE0 (.immediate imm) s)

/-- 0xE4 `CPX dp` (R253). -/
def execCpxDir (dp : Byte) (s : State) : Result := .next (cpx 0xE4 (.direct dp) s)

/-- 0xEC `CPX addr` (R253). -/
def execCpxAbs (addr : Word) (s : State) : Result := .next (cpx 0xEC (.absolute addr) s)

/-- CPY (R254). -/
def cpy (op : Byte) (o : Operand) (s : State) : State :=
  readInstr op o s.cpu.xw (fun m t => t.mapCpu (Cpu.compare s.cpu.xw (s.cpu.getY s.cpu.xw) m)) s

/-- 0xC0 `CPY #const` (R254). -/
def execCpyImm (imm : Imm) (s : State) : Result := .next (cpy 0xC0 (.immediate imm) s)

/-- 0xC4 `CPY dp` (R254). -/
def execCpyDir (dp : Byte) (s : State) : Result := .next (cpy 0xC4 (.direct dp) s)

/-- 0xCC `CPY addr` (R254). -/
def execCpyAbs (addr : Word) (s : State) : Result := .next (cpy 0xCC (.absolute addr) s)

end Sys2Proof.Machine
end

