-- ==== Sys2Proof/Machine/BlockMove.lean ====
section
/-! DEFINITION. Block moves (spec/46_block_move.md R400 to R402). -/

namespace Sys2Proof.Machine

/-- One step of a block move (R400): one byte from `src : X` to `dst : Y`, X and Y moved by `step`, A counted down, DB the
destination bank, PC held until A is 0xFFFF. -/
def blockMove (op : Byte) (dst src : Byte) (step : Word) (s : State) : State :=
  let r := s.read8 (addr24 src s.cpu.x)
  let t := r.2.write8 (addr24 dst s.cpu.y) r.1
  (State.charge op false false 0 s t).mapCpu fun c =>
    { c with
      x := s.cpu.xw.trunc (c.x + step), y := s.cpu.xw.trunc (c.y + step), a := c.a - 1, db := dst
      pc := if c.a - 1 = 0xFFFF then nextPc op s.cpu else c.pc }

/-- 0x54 `MVN srcbk,destbk` (R401). -/
def execMvn (dst : Byte) (src : Byte) (s : State) : Result :=
  .next (blockMove 0x54 dst src 1 s)

/-- 0x44 `MVP srcbk,destbk` (R402). -/
def execMvp (dst : Byte) (src : Byte) (s : State) : Result :=
  .next (blockMove 0x44 dst src (-1) s)

end Sys2Proof.Machine
end

