-- ==== Sys2Proof/Machine/Control.lean ====
section
/-! DEFINITION. Branches, jumps, calls and returns (spec/43_control_flow.md R300 to R315). -/

namespace Sys2Proof.Machine

/-- The target of a relative branch (R193). -/
def branchTarget (rel : Byte) (c : Cpu) : Word := c.pc + 2 + rel.signExtend 16

/-- A branch: PC takes the target where the condition holds, else nextPC (R300 to R308). -/
def branch (op : Byte) (rel : Byte) (taken : Bool) (s : State) : State :=
  let target := branchTarget rel s.cpu
  (State.charge op false taken target s s).mapCpu fun c => { c with pc := if taken then target else nextPc op s.cpu }

/-- 0x90 `BCC nearlabel` (R300). -/
def execBcc (rel : Byte) (s : State) : Result :=
  .next (branch 0x90 rel (!s.cpu.p.c) s)

/-- 0xB0 `BCS nearlabel` (R301). -/
def execBcs (rel : Byte) (s : State) : Result :=
  .next (branch 0xB0 rel s.cpu.p.c s)

/-- 0xF0 `BEQ nearlabel` (R302). -/
def execBeq (rel : Byte) (s : State) : Result :=
  .next (branch 0xF0 rel s.cpu.p.z s)

/-- 0xD0 `BNE nearlabel` (R303). -/
def execBne (rel : Byte) (s : State) : Result :=
  .next (branch 0xD0 rel (!s.cpu.p.z) s)

/-- 0x30 `BMI nearlabel` (R304). -/
def execBmi (rel : Byte) (s : State) : Result :=
  .next (branch 0x30 rel s.cpu.p.n s)

/-- 0x10 `BPL nearlabel` (R305). -/
def execBpl (rel : Byte) (s : State) : Result :=
  .next (branch 0x10 rel (!s.cpu.p.n) s)

/-- 0x50 `BVC nearlabel` (R306). -/
def execBvc (rel : Byte) (s : State) : Result :=
  .next (branch 0x50 rel (!s.cpu.p.v) s)

/-- 0x70 `BVS nearlabel` (R307). -/
def execBvs (rel : Byte) (s : State) : Result :=
  .next (branch 0x70 rel s.cpu.p.v s)

/-- 0x80 `BRA nearlabel` (R308). -/
def execBra (rel : Byte) (s : State) : Result :=
  .next (branch 0x80 rel true s)

/-- 0x82 `BRL label` (R309). -/
def execBrl (rel : Word) (s : State) : Result :=
  .next (State.retireAt 0x82 (s.cpu.pc + 3 + rel) s s)

/-! ## Jumps -/

/-- 0x4C `JMP addr` (R310). -/
def execJmpAbs (addr : Word) (s : State) : Result :=
  .next (State.retireAt 0x4C addr s s)

/-- JMP through a 16-bit pointer in a bank (R310). -/
def jumpIndirect (op : Byte) (bank : Byte) (off : Word) (s : State) : State :=
  let p := s.readPtr bank off
  State.retireAt op p.1 s p.2

/-- 0x6C `JMP (addr)` (R310). -/
def execJmpAbsInd (addr : Word) (s : State) : Result :=
  .next (jumpIndirect 0x6C 0 addr s)

/-- 0x7C `JMP (addr,X)` (R310). -/
def execJmpAbsIndX (addr : Word) (s : State) : Result :=
  .next (jumpIndirect 0x7C s.cpu.pb (addr + s.cpu.x) s)

/-- End an instruction that writes PB and PC. -/
def State.retireFar (op : Byte) (target : Addr) (s0 s : State) : State :=
  (State.retireAt op (offsetOf target) s0 s).mapCpu fun c => { c with pb := bankOf target }

/-- 0x5C `JML long` (R311). -/
def execJmlLong (long : Addr) (s : State) : Result :=
  .next (State.retireFar 0x5C long s s)

/-- 0xDC `JML [addr]` (R311). Its pointer wraps within bank 0, as R189 and R311 say, where R66 has absolute-long pointers run on into
bank 1 (DESIGN CHOICE, log 20: the rules disagree, for 0xFFFE and 0xFFFF only). -/
def execJmlAbsIndLong (addr : Word) (s : State) : Result :=
  let p := s.read24At (addr24 0 addr) (addr24 0 (addr + 1)) (addr24 0 (addr + 2))
  .next (State.retireFar 0xDC p.1 s p.2)

/-! ## Calls and returns -/

/-- 0x20 `JSR addr` (R312). -/
def execJsrAbs (addr : Word) (s : State) : Result :=
  let nw := noWrapOf s.params 0x20
  let t := s.push16 nw (s.cpu.pc + 2)
  .next (State.retireAt 0x20 addr s (t.mapCpu (Cpu.restoreStackPage nw)))

/-- 0xFC `JSR (addr,X)` (R312). -/
def execJsrAbsIndX (addr : Word) (s : State) : Result :=
  let nw := noWrapOf s.params 0xFC
  let p := (s.push16 nw (s.cpu.pc + 2)).readPtr s.cpu.pb (addr + s.cpu.x)
  .next (State.retireAt 0xFC p.1 s (p.2.mapCpu (Cpu.restoreStackPage nw)))

/-- 0x22 `JSL long` (R313). -/
def execJsl (long : Addr) (s : State) : Result :=
  let nw := noWrapOf s.params 0x22
  let t := (s.push8 nw s.cpu.pb).push16 nw (s.cpu.pc + 3)
  .next (State.retireFar 0x22 long s (t.mapCpu (Cpu.restoreStackPage nw)))

/-- 0x60 `RTS` (R314). -/
def execRts (s : State) : Result :=
  let nw := noWrapOf s.params 0x60
  let v := s.pull16 nw
  .next (State.retireAt 0x60 (v.1 + 1) s (v.2.mapCpu (Cpu.restoreStackPage nw)))

/-- 0x6B `RTL` (R315). -/
def execRtl (s : State) : Result :=
  let nw := noWrapOf s.params 0x6B
  let v := s.pull16 nw
  let k := v.2.pull8 nw
  .next (State.retireFar 0x6B (addr24 k.1 (v.1 + 1)) s (k.2.mapCpu (Cpu.restoreStackPage nw)))

end Sys2Proof.Machine
end

