-- ==== Sys2Proof/Machine/IncShift.lean ====
section
/-! DEFINITION. Increment, decrement, shifts and rotates (spec/42_arith_logic.md R259 to R268). -/

namespace Sys2Proof.Machine

/-- INC (R259). -/
def inc (op : Byte) (o : Operand) (s : State) : State :=
  rmwInstr op o s.cpu.mw (fun v => v + 1) (fun _ r c => c.setNZ r s.cpu.mw) s

/-- 0x1A `INC A` (R259). -/
def execIncAcc (s : State) : Result := .next (inc 0x1A .accumulator s)

/-- 0xE6 `INC dp` (R259). -/
def execIncDir (dp : Byte) (s : State) : Result := .next (inc 0xE6 (.direct dp) s)

/-- 0xEE `INC addr` (R259). -/
def execIncAbs (addr : Word) (s : State) : Result := .next (inc 0xEE (.absolute addr) s)

/-- 0xF6 `INC dp,X` (R259). -/
def execIncDirX (dp : Byte) (s : State) : Result := .next (inc 0xF6 (.directX dp) s)

/-- 0xFE `INC addr,X` (R259). -/
def execIncAbsX (addr : Word) (s : State) : Result := .next (inc 0xFE (.absoluteX addr) s)

/-- DEC (R262). -/
def dec (op : Byte) (o : Operand) (s : State) : State :=
  rmwInstr op o s.cpu.mw (fun v => v - 1) (fun _ r c => c.setNZ r s.cpu.mw) s

/-- 0x3A `DEC A` (R262). -/
def execDecAcc (s : State) : Result := .next (dec 0x3A .accumulator s)

/-- 0xC6 `DEC dp` (R262). -/
def execDecDir (dp : Byte) (s : State) : Result := .next (dec 0xC6 (.direct dp) s)

/-- 0xCE `DEC addr` (R262). -/
def execDecAbs (addr : Word) (s : State) : Result := .next (dec 0xCE (.absolute addr) s)

/-- 0xD6 `DEC dp,X` (R262). -/
def execDecDirX (dp : Byte) (s : State) : Result := .next (dec 0xD6 (.directX dp) s)

/-- 0xDE `DEC addr,X` (R262). -/
def execDecAbsX (addr : Word) (s : State) : Result := .next (dec 0xDE (.absoluteX addr) s)

/-- 0xE8 `INX` (R260). -/
def execInx (s : State) : Result :=
  .next (impliedInstr 0xE8 (fun c => c.loadX c.xw (c.xw.trunc (c.x + 1))) s)

/-- 0xC8 `INY` (R261). -/
def execIny (s : State) : Result :=
  .next (impliedInstr 0xC8 (fun c => c.loadY c.xw (c.xw.trunc (c.y + 1))) s)

/-- 0xCA `DEX` (R263). -/
def execDex (s : State) : Result :=
  .next (impliedInstr 0xCA (fun c => c.loadX c.xw (c.xw.trunc (c.x - 1))) s)

/-- 0x88 `DEY` (R264). -/
def execDey (s : State) : Result :=
  .next (impliedInstr 0x88 (fun c => c.loadY c.xw (c.xw.trunc (c.y - 1))) s)

/-- ASL (R265). -/
def asl (op : Byte) (o : Operand) (s : State) : State :=
  rmwInstr op o s.cpu.mw shiftLeft (fun v r c => c.setNZC r s.cpu.mw (s.cpu.mw.msb v)) s

/-- 0x06 `ASL dp` (R265). -/
def execAslDir (dp : Byte) (s : State) : Result := .next (asl 0x06 (.direct dp) s)

/-- 0x0A `ASL A` (R265). -/
def execAslAcc (s : State) : Result := .next (asl 0x0A .accumulator s)

/-- 0x0E `ASL addr` (R265). -/
def execAslAbs (addr : Word) (s : State) : Result := .next (asl 0x0E (.absolute addr) s)

/-- 0x16 `ASL dp,X` (R265). -/
def execAslDirX (dp : Byte) (s : State) : Result := .next (asl 0x16 (.directX dp) s)

/-- 0x1E `ASL addr,X` (R265). -/
def execAslAbsX (addr : Word) (s : State) : Result := .next (asl 0x1E (.absoluteX addr) s)

/-- LSR (R266). -/
def lsr (op : Byte) (o : Operand) (s : State) : State :=
  rmwInstr op o s.cpu.mw shiftRight (fun v r c => c.setNZC r s.cpu.mw (v.getLsbD 0)) s

/-- 0x46 `LSR dp` (R266). -/
def execLsrDir (dp : Byte) (s : State) : Result := .next (lsr 0x46 (.direct dp) s)

/-- 0x4A `LSR A` (R266). -/
def execLsrAcc (s : State) : Result := .next (lsr 0x4A .accumulator s)

/-- 0x4E `LSR addr` (R266). -/
def execLsrAbs (addr : Word) (s : State) : Result := .next (lsr 0x4E (.absolute addr) s)

/-- 0x56 `LSR dp,X` (R266). -/
def execLsrDirX (dp : Byte) (s : State) : Result := .next (lsr 0x56 (.directX dp) s)

/-- 0x5E `LSR addr,X` (R266). -/
def execLsrAbsX (addr : Word) (s : State) : Result := .next (lsr 0x5E (.absoluteX addr) s)

/-- ROL (R267). -/
def rol (op : Byte) (o : Operand) (s : State) : State :=
  rmwInstr op o s.cpu.mw (rotateLeft s.cpu.p.c) (fun v r c => c.setNZC r s.cpu.mw (s.cpu.mw.msb v)) s

/-- 0x26 `ROL dp` (R267). -/
def execRolDir (dp : Byte) (s : State) : Result := .next (rol 0x26 (.direct dp) s)

/-- 0x2A `ROL A` (R267). -/
def execRolAcc (s : State) : Result := .next (rol 0x2A .accumulator s)

/-- 0x2E `ROL addr` (R267). -/
def execRolAbs (addr : Word) (s : State) : Result := .next (rol 0x2E (.absolute addr) s)

/-- 0x36 `ROL dp,X` (R267). -/
def execRolDirX (dp : Byte) (s : State) : Result := .next (rol 0x36 (.directX dp) s)

/-- 0x3E `ROL addr,X` (R267). -/
def execRolAbsX (addr : Word) (s : State) : Result := .next (rol 0x3E (.absoluteX addr) s)

/-- ROR (R268). -/
def ror (op : Byte) (o : Operand) (s : State) : State :=
  rmwInstr op o s.cpu.mw (rotateRight s.cpu.mw s.cpu.p.c) (fun v r c => c.setNZC r s.cpu.mw (v.getLsbD 0)) s

/-- 0x66 `ROR dp` (R268). -/
def execRorDir (dp : Byte) (s : State) : Result := .next (ror 0x66 (.direct dp) s)

/-- 0x6A `ROR A` (R268). -/
def execRorAcc (s : State) : Result := .next (ror 0x6A .accumulator s)

/-- 0x6E `ROR addr` (R268). -/
def execRorAbs (addr : Word) (s : State) : Result := .next (ror 0x6E (.absolute addr) s)

/-- 0x76 `ROR dp,X` (R268). -/
def execRorDirX (dp : Byte) (s : State) : Result := .next (ror 0x76 (.directX dp) s)

/-- 0x7E `ROR addr,X` (R268). -/
def execRorAbsX (addr : Word) (s : State) : Result := .next (ror 0x7E (.absoluteX addr) s)

end Sys2Proof.Machine
end

