-- ==== Sys2Proof/Machine/LoadStore.lean ====
section
/-! DEFINITION. Loads and stores (spec/41_load_store_transfer.md R210 to R216). -/

namespace Sys2Proof.Machine

/-! ## Loads -/

/-- LDA (R210). -/
def lda (op : Byte) (o : Operand) (s : State) : State :=
  readInstr op o s.cpu.mw (fun m t => t.mapCpu (Cpu.loadA s.cpu.mw m)) s

/-- 0xA1 `LDA (dp,X)` (R210). -/
def execLdaIndX (dp : Byte) (s : State) : Result := .next (lda 0xA1 (.directXIndirect dp) s)

/-- 0xA3 `LDA sr,S` (R210). -/
def execLdaSr (sr : Byte) (s : State) : Result := .next (lda 0xA3 (.stackRelative sr) s)

/-- 0xA5 `LDA dp` (R210). -/
def execLdaDir (dp : Byte) (s : State) : Result := .next (lda 0xA5 (.direct dp) s)

/-- 0xA7 `LDA [dp]` (R210). -/
def execLdaIndLong (dp : Byte) (s : State) : Result := .next (lda 0xA7 (.directIndirectLong dp) s)

/-- 0xA9 `LDA #const` (R210). -/
def execLdaImm (imm : Imm) (s : State) : Result := .next (lda 0xA9 (.immediate imm) s)

/-- 0xAD `LDA addr` (R210). -/
def execLdaAbs (addr : Word) (s : State) : Result := .next (lda 0xAD (.absolute addr) s)

/-- 0xAF `LDA long` (R210). -/
def execLdaLong (long : Addr) (s : State) : Result := .next (lda 0xAF (.absoluteLong long) s)

/-- 0xB1 `LDA (dp),Y` (R210). -/
def execLdaIndY (dp : Byte) (s : State) : Result := .next (lda 0xB1 (.directIndirectY dp) s)

/-- 0xB2 `LDA (dp)` (R210). -/
def execLdaInd (dp : Byte) (s : State) : Result := .next (lda 0xB2 (.directIndirect dp) s)

/-- 0xB3 `LDA (sr,S),Y` (R210). -/
def execLdaSrIndY (sr : Byte) (s : State) : Result := .next (lda 0xB3 (.stackRelativeIndirectY sr) s)

/-- 0xB5 `LDA dp,X` (R210). -/
def execLdaDirX (dp : Byte) (s : State) : Result := .next (lda 0xB5 (.directX dp) s)

/-- 0xB7 `LDA [dp],Y` (R210). -/
def execLdaIndLongY (dp : Byte) (s : State) : Result := .next (lda 0xB7 (.directIndirectLongY dp) s)

/-- 0xB9 `LDA addr,Y` (R210). -/
def execLdaAbsY (addr : Word) (s : State) : Result := .next (lda 0xB9 (.absoluteY addr) s)

/-- 0xBD `LDA addr,X` (R210). -/
def execLdaAbsX (addr : Word) (s : State) : Result := .next (lda 0xBD (.absoluteX addr) s)

/-- 0xBF `LDA long,X` (R210). -/
def execLdaLongX (long : Addr) (s : State) : Result := .next (lda 0xBF (.absoluteLongX long) s)

/-- LDX (R211). -/
def ldx (op : Byte) (o : Operand) (s : State) : State :=
  readInstr op o s.cpu.xw (fun m t => t.mapCpu (Cpu.loadX s.cpu.xw m)) s

/-- 0xA2 `LDX #const` (R211). -/
def execLdxImm (imm : Imm) (s : State) : Result := .next (ldx 0xA2 (.immediate imm) s)

/-- 0xA6 `LDX dp` (R211). -/
def execLdxDir (dp : Byte) (s : State) : Result := .next (ldx 0xA6 (.direct dp) s)

/-- 0xAE `LDX addr` (R211). -/
def execLdxAbs (addr : Word) (s : State) : Result := .next (ldx 0xAE (.absolute addr) s)

/-- 0xB6 `LDX dp,Y` (R211). -/
def execLdxDirY (dp : Byte) (s : State) : Result := .next (ldx 0xB6 (.directY dp) s)

/-- 0xBE `LDX addr,Y` (R211). -/
def execLdxAbsY (addr : Word) (s : State) : Result := .next (ldx 0xBE (.absoluteY addr) s)

/-- LDY (R212). -/
def ldy (op : Byte) (o : Operand) (s : State) : State :=
  readInstr op o s.cpu.xw (fun m t => t.mapCpu (Cpu.loadY s.cpu.xw m)) s

/-- 0xA0 `LDY #const` (R212). -/
def execLdyImm (imm : Imm) (s : State) : Result := .next (ldy 0xA0 (.immediate imm) s)

/-- 0xA4 `LDY dp` (R212). -/
def execLdyDir (dp : Byte) (s : State) : Result := .next (ldy 0xA4 (.direct dp) s)

/-- 0xAC `LDY addr` (R212). -/
def execLdyAbs (addr : Word) (s : State) : Result := .next (ldy 0xAC (.absolute addr) s)

/-- 0xB4 `LDY dp,X` (R212). -/
def execLdyDirX (dp : Byte) (s : State) : Result := .next (ldy 0xB4 (.directX dp) s)

/-- 0xBC `LDY addr,X` (R212). -/
def execLdyAbsX (addr : Word) (s : State) : Result := .next (ldy 0xBC (.absoluteX addr) s)

/-! ## Stores -/

/-- STA (R213). -/
def sta (op : Byte) (o : Operand) (s : State) : State := storeInstr op o s.cpu.mw (s.cpu.getA s.cpu.mw) s

/-- 0x81 `STA (dp,X)` (R213). -/
def execStaIndX (dp : Byte) (s : State) : Result := .next (sta 0x81 (.directXIndirect dp) s)

/-- 0x83 `STA sr,S` (R213). -/
def execStaSr (sr : Byte) (s : State) : Result := .next (sta 0x83 (.stackRelative sr) s)

/-- 0x85 `STA dp` (R213). -/
def execStaDir (dp : Byte) (s : State) : Result := .next (sta 0x85 (.direct dp) s)

/-- 0x87 `STA [dp]` (R213). -/
def execStaIndLong (dp : Byte) (s : State) : Result := .next (sta 0x87 (.directIndirectLong dp) s)

/-- 0x8D `STA addr` (R213). -/
def execStaAbs (addr : Word) (s : State) : Result := .next (sta 0x8D (.absolute addr) s)

/-- 0x8F `STA long` (R213). -/
def execStaLong (long : Addr) (s : State) : Result := .next (sta 0x8F (.absoluteLong long) s)

/-- 0x91 `STA (dp),Y` (R213). -/
def execStaIndY (dp : Byte) (s : State) : Result := .next (sta 0x91 (.directIndirectY dp) s)

/-- 0x92 `STA (dp)` (R213). -/
def execStaInd (dp : Byte) (s : State) : Result := .next (sta 0x92 (.directIndirect dp) s)

/-- 0x93 `STA (sr,S),Y` (R213). -/
def execStaSrIndY (sr : Byte) (s : State) : Result := .next (sta 0x93 (.stackRelativeIndirectY sr) s)

/-- 0x95 `STA dp,X` (R213). -/
def execStaDirX (dp : Byte) (s : State) : Result := .next (sta 0x95 (.directX dp) s)

/-- 0x97 `STA [dp],Y` (R213). -/
def execStaIndLongY (dp : Byte) (s : State) : Result := .next (sta 0x97 (.directIndirectLongY dp) s)

/-- 0x99 `STA addr,Y` (R213). -/
def execStaAbsY (addr : Word) (s : State) : Result := .next (sta 0x99 (.absoluteY addr) s)

/-- 0x9D `STA addr,X` (R213). -/
def execStaAbsX (addr : Word) (s : State) : Result := .next (sta 0x9D (.absoluteX addr) s)

/-- 0x9F `STA long,X` (R213). -/
def execStaLongX (long : Addr) (s : State) : Result := .next (sta 0x9F (.absoluteLongX long) s)

/-- STX (R214). -/
def stx (op : Byte) (o : Operand) (s : State) : State := storeInstr op o s.cpu.xw (s.cpu.getX s.cpu.xw) s

/-- 0x86 `STX dp` (R214). -/
def execStxDir (dp : Byte) (s : State) : Result := .next (stx 0x86 (.direct dp) s)

/-- 0x8E `STX addr` (R214). -/
def execStxAbs (addr : Word) (s : State) : Result := .next (stx 0x8E (.absolute addr) s)

/-- 0x96 `STX dp,Y` (R214). -/
def execStxDirY (dp : Byte) (s : State) : Result := .next (stx 0x96 (.directY dp) s)

/-- STY (R215). -/
def sty (op : Byte) (o : Operand) (s : State) : State := storeInstr op o s.cpu.xw (s.cpu.getY s.cpu.xw) s

/-- 0x84 `STY dp` (R215). -/
def execStyDir (dp : Byte) (s : State) : Result := .next (sty 0x84 (.direct dp) s)

/-- 0x8C `STY addr` (R215). -/
def execStyAbs (addr : Word) (s : State) : Result := .next (sty 0x8C (.absolute addr) s)

/-- 0x94 `STY dp,X` (R215). -/
def execStyDirX (dp : Byte) (s : State) : Result := .next (sty 0x94 (.directX dp) s)

/-- STZ (R216). -/
def stz (op : Byte) (o : Operand) (s : State) : State := storeInstr op o s.cpu.mw 0 s

/-- 0x64 `STZ dp` (R216). -/
def execStzDir (dp : Byte) (s : State) : Result := .next (stz 0x64 (.direct dp) s)

/-- 0x74 `STZ dp,X` (R216). -/
def execStzDirX (dp : Byte) (s : State) : Result := .next (stz 0x74 (.directX dp) s)

/-- 0x9C `STZ addr` (R216). -/
def execStzAbs (addr : Word) (s : State) : Result := .next (stz 0x9C (.absolute addr) s)

/-- 0x9E `STZ addr,X` (R216). -/
def execStzAbsX (addr : Word) (s : State) : Result := .next (stz 0x9E (.absoluteX addr) s)

end Sys2Proof.Machine
end

