-- ==== Sys2Proof/Machine/Logic.lean ====
section
/-! DEFINITION. Logic and bit tests (spec/42_arith_logic.md R255 to R258, R269, R270). -/

namespace Sys2Proof.Machine

/-- AND (R255). -/
def logicAnd (op : Byte) (o : Operand) (s : State) : State :=
  readInstr op o s.cpu.mw (fun m t => t.mapCpu (Cpu.loadA s.cpu.mw (s.cpu.getA s.cpu.mw &&& m))) s

/-- 0x21 `AND (dp,X)` (R255). -/
def execAndIndX (dp : Byte) (s : State) : Result := .next (logicAnd 0x21 (.directXIndirect dp) s)

/-- 0x23 `AND sr,S` (R255). -/
def execAndSr (sr : Byte) (s : State) : Result := .next (logicAnd 0x23 (.stackRelative sr) s)

/-- 0x25 `AND dp` (R255). -/
def execAndDir (dp : Byte) (s : State) : Result := .next (logicAnd 0x25 (.direct dp) s)

/-- 0x27 `AND [dp]` (R255). -/
def execAndIndLong (dp : Byte) (s : State) : Result := .next (logicAnd 0x27 (.directIndirectLong dp) s)

/-- 0x29 `AND #const` (R255). -/
def execAndImm (imm : Imm) (s : State) : Result := .next (logicAnd 0x29 (.immediate imm) s)

/-- 0x2D `AND addr` (R255). -/
def execAndAbs (addr : Word) (s : State) : Result := .next (logicAnd 0x2D (.absolute addr) s)

/-- 0x2F `AND long` (R255). -/
def execAndLong (long : Addr) (s : State) : Result := .next (logicAnd 0x2F (.absoluteLong long) s)

/-- 0x31 `AND (dp),Y` (R255). -/
def execAndIndY (dp : Byte) (s : State) : Result := .next (logicAnd 0x31 (.directIndirectY dp) s)

/-- 0x32 `AND (dp)` (R255). -/
def execAndInd (dp : Byte) (s : State) : Result := .next (logicAnd 0x32 (.directIndirect dp) s)

/-- 0x33 `AND (sr,S),Y` (R255). -/
def execAndSrIndY (sr : Byte) (s : State) : Result := .next (logicAnd 0x33 (.stackRelativeIndirectY sr) s)

/-- 0x35 `AND dp,X` (R255). -/
def execAndDirX (dp : Byte) (s : State) : Result := .next (logicAnd 0x35 (.directX dp) s)

/-- 0x37 `AND [dp],Y` (R255). -/
def execAndIndLongY (dp : Byte) (s : State) : Result := .next (logicAnd 0x37 (.directIndirectLongY dp) s)

/-- 0x39 `AND addr,Y` (R255). -/
def execAndAbsY (addr : Word) (s : State) : Result := .next (logicAnd 0x39 (.absoluteY addr) s)

/-- 0x3D `AND addr,X` (R255). -/
def execAndAbsX (addr : Word) (s : State) : Result := .next (logicAnd 0x3D (.absoluteX addr) s)

/-- 0x3F `AND long,X` (R255). -/
def execAndLongX (long : Addr) (s : State) : Result := .next (logicAnd 0x3F (.absoluteLongX long) s)

/-- ORA (R256). -/
def logicOr (op : Byte) (o : Operand) (s : State) : State :=
  readInstr op o s.cpu.mw (fun m t => t.mapCpu (Cpu.loadA s.cpu.mw (s.cpu.getA s.cpu.mw ||| m))) s

/-- 0x01 `ORA (dp,X)` (R256). -/
def execOraIndX (dp : Byte) (s : State) : Result := .next (logicOr 0x01 (.directXIndirect dp) s)

/-- 0x03 `ORA sr,S` (R256). -/
def execOraSr (sr : Byte) (s : State) : Result := .next (logicOr 0x03 (.stackRelative sr) s)

/-- 0x05 `ORA dp` (R256). -/
def execOraDir (dp : Byte) (s : State) : Result := .next (logicOr 0x05 (.direct dp) s)

/-- 0x07 `ORA [dp]` (R256). -/
def execOraIndLong (dp : Byte) (s : State) : Result := .next (logicOr 0x07 (.directIndirectLong dp) s)

/-- 0x09 `ORA #const` (R256). -/
def execOraImm (imm : Imm) (s : State) : Result := .next (logicOr 0x09 (.immediate imm) s)

/-- 0x0D `ORA addr` (R256). -/
def execOraAbs (addr : Word) (s : State) : Result := .next (logicOr 0x0D (.absolute addr) s)

/-- 0x0F `ORA long` (R256). -/
def execOraLong (long : Addr) (s : State) : Result := .next (logicOr 0x0F (.absoluteLong long) s)

/-- 0x11 `ORA (dp),Y` (R256). -/
def execOraIndY (dp : Byte) (s : State) : Result := .next (logicOr 0x11 (.directIndirectY dp) s)

/-- 0x12 `ORA (dp)` (R256). -/
def execOraInd (dp : Byte) (s : State) : Result := .next (logicOr 0x12 (.directIndirect dp) s)

/-- 0x13 `ORA (sr,S),Y` (R256). -/
def execOraSrIndY (sr : Byte) (s : State) : Result := .next (logicOr 0x13 (.stackRelativeIndirectY sr) s)

/-- 0x15 `ORA dp,X` (R256). -/
def execOraDirX (dp : Byte) (s : State) : Result := .next (logicOr 0x15 (.directX dp) s)

/-- 0x17 `ORA [dp],Y` (R256). -/
def execOraIndLongY (dp : Byte) (s : State) : Result := .next (logicOr 0x17 (.directIndirectLongY dp) s)

/-- 0x19 `ORA addr,Y` (R256). -/
def execOraAbsY (addr : Word) (s : State) : Result := .next (logicOr 0x19 (.absoluteY addr) s)

/-- 0x1D `ORA addr,X` (R256). -/
def execOraAbsX (addr : Word) (s : State) : Result := .next (logicOr 0x1D (.absoluteX addr) s)

/-- 0x1F `ORA long,X` (R256). -/
def execOraLongX (long : Addr) (s : State) : Result := .next (logicOr 0x1F (.absoluteLongX long) s)

/-- EOR (R257). -/
def logicXor (op : Byte) (o : Operand) (s : State) : State :=
  readInstr op o s.cpu.mw (fun m t => t.mapCpu (Cpu.loadA s.cpu.mw (s.cpu.getA s.cpu.mw ^^^ m))) s

/-- 0x41 `EOR (dp,X)` (R257). -/
def execEorIndX (dp : Byte) (s : State) : Result := .next (logicXor 0x41 (.directXIndirect dp) s)

/-- 0x43 `EOR sr,S` (R257). -/
def execEorSr (sr : Byte) (s : State) : Result := .next (logicXor 0x43 (.stackRelative sr) s)

/-- 0x45 `EOR dp` (R257). -/
def execEorDir (dp : Byte) (s : State) : Result := .next (logicXor 0x45 (.direct dp) s)

/-- 0x47 `EOR [dp]` (R257). -/
def execEorIndLong (dp : Byte) (s : State) : Result := .next (logicXor 0x47 (.directIndirectLong dp) s)

/-- 0x49 `EOR #const` (R257). -/
def execEorImm (imm : Imm) (s : State) : Result := .next (logicXor 0x49 (.immediate imm) s)

/-- 0x4D `EOR addr` (R257). -/
def execEorAbs (addr : Word) (s : State) : Result := .next (logicXor 0x4D (.absolute addr) s)

/-- 0x4F `EOR long` (R257). -/
def execEorLong (long : Addr) (s : State) : Result := .next (logicXor 0x4F (.absoluteLong long) s)

/-- 0x51 `EOR (dp),Y` (R257). -/
def execEorIndY (dp : Byte) (s : State) : Result := .next (logicXor 0x51 (.directIndirectY dp) s)

/-- 0x52 `EOR (dp)` (R257). -/
def execEorInd (dp : Byte) (s : State) : Result := .next (logicXor 0x52 (.directIndirect dp) s)

/-- 0x53 `EOR (sr,S),Y` (R257). -/
def execEorSrIndY (sr : Byte) (s : State) : Result := .next (logicXor 0x53 (.stackRelativeIndirectY sr) s)

/-- 0x55 `EOR dp,X` (R257). -/
def execEorDirX (dp : Byte) (s : State) : Result := .next (logicXor 0x55 (.directX dp) s)

/-- 0x57 `EOR [dp],Y` (R257). -/
def execEorIndLongY (dp : Byte) (s : State) : Result := .next (logicXor 0x57 (.directIndirectLongY dp) s)

/-- 0x59 `EOR addr,Y` (R257). -/
def execEorAbsY (addr : Word) (s : State) : Result := .next (logicXor 0x59 (.absoluteY addr) s)

/-- 0x5D `EOR addr,X` (R257). -/
def execEorAbsX (addr : Word) (s : State) : Result := .next (logicXor 0x5D (.absoluteX addr) s)

/-- 0x5F `EOR long,X` (R257). -/
def execEorLongX (long : Addr) (s : State) : Result := .next (logicXor 0x5F (.absoluteLongX long) s)

/-- BIT with a memory operand (R258). -/
def bit (op : Byte) (o : Operand) (s : State) : State :=
  readInstr op o s.cpu.mw (fun m t => t.mapCpu (Cpu.bitMemory s.cpu.mw m)) s

/-- BIT with an immediate: only Z (R258). -/
def bitImmediate (op : Byte) (o : Operand) (s : State) : State :=
  readInstr op o s.cpu.mw (fun m t => t.mapCpu (Cpu.testZ s.cpu.mw m)) s

/-- 0x24 `BIT dp` (R258). -/
def execBitDir (dp : Byte) (s : State) : Result := .next (bit 0x24 (.direct dp) s)

/-- 0x2C `BIT addr` (R258). -/
def execBitAbs (addr : Word) (s : State) : Result := .next (bit 0x2C (.absolute addr) s)

/-- 0x34 `BIT dp,X` (R258). -/
def execBitDirX (dp : Byte) (s : State) : Result := .next (bit 0x34 (.directX dp) s)

/-- 0x3C `BIT addr,X` (R258). -/
def execBitAbsX (addr : Word) (s : State) : Result := .next (bit 0x3C (.absoluteX addr) s)

/-- 0x89 `BIT #const` (R258). -/
def execBitImm (imm : Imm) (s : State) : Result := .next (bitImmediate 0x89 (.immediate imm) s)

/-- TSB (R269). -/
def tsb (op : Byte) (o : Operand) (s : State) : State :=
  rmwInstr op o s.cpu.mw (fun v => v ||| s.cpu.getA s.cpu.mw) (fun old _ => Cpu.testZ s.cpu.mw old) s

/-- 0x04 `TSB dp` (R269). -/
def execTsbDir (dp : Byte) (s : State) : Result := .next (tsb 0x04 (.direct dp) s)

/-- 0x0C `TSB addr` (R269). -/
def execTsbAbs (addr : Word) (s : State) : Result := .next (tsb 0x0C (.absolute addr) s)

/-- TRB (R270). -/
def trb (op : Byte) (o : Operand) (s : State) : State :=
  rmwInstr op o s.cpu.mw (fun v => v &&& s.cpu.mw.complement (s.cpu.getA s.cpu.mw)) (fun old _ => Cpu.testZ s.cpu.mw old) s

/-- 0x14 `TRB dp` (R270). -/
def execTrbDir (dp : Byte) (s : State) : Result := .next (trb 0x14 (.direct dp) s)

/-- 0x1C `TRB addr` (R270). -/
def execTrbAbs (addr : Word) (s : State) : Result := .next (trb 0x1C (.absolute addr) s)

end Sys2Proof.Machine
end

