-- ==== Sys2Proof/Machine/Stack.lean ====
section
/-! DEFINITION. Pushes and pulls (spec/44_stack.md R343 to R358). -/

namespace Sys2Proof.Machine

/-! ## Pushes -/

/-- 0x48 `PHA` (R343). -/
def execPha (s : State) : Result :=
  .next (stackInstr 0x48 (fun nw t => t.pushW nw s.cpu.mw s.cpu.a) s)

/-- 0xDA `PHX` (R344). -/
def execPhx (s : State) : Result :=
  .next (stackInstr 0xDA (fun nw t => t.pushW nw s.cpu.xw s.cpu.x) s)

/-- 0x5A `PHY` (R345). -/
def execPhy (s : State) : Result :=
  .next (stackInstr 0x5A (fun nw t => t.pushW nw s.cpu.xw s.cpu.y) s)

/-- 0x08 `PHP` (R346). -/
def execPhp (s : State) : Result :=
  .next (stackInstr 0x08 (fun nw t => t.push8 nw s.cpu.p.toByte) s)

/-- 0x8B `PHB` (R347). -/
def execPhb (s : State) : Result :=
  .next (stackInstr 0x8B (fun nw t => t.push8 nw s.cpu.db) s)

/-- 0x0B `PHD` (R348). -/
def execPhd (s : State) : Result :=
  .next (stackInstr 0x0B (fun nw t => t.push16 nw s.cpu.d) s)

/-- 0x4B `PHK` (R349). -/
def execPhk (s : State) : Result :=
  .next (stackInstr 0x4B (fun nw t => t.push8 nw s.cpu.pb) s)

/-- 0xF4 `PEA addr` (R356). -/
def execPea (addr : Word) (s : State) : Result :=
  .next (stackInstr 0xF4 (fun nw t => t.push16 nw addr) s)

/-- The word PEI pushes: a direct-page word, without the page wrap (R357). -/
def peiWord (dp : Byte) (s : State) : Word × State :=
  s.read16At (s.cpu.dpAddr (byteWord dp) false) (s.cpu.dpAddr (byteWord dp + 1) false)

/-- 0xD4 `PEI (dp)` (R357). -/
def execPei (dp : Byte) (s : State) : Result :=
  .next (stackInstr 0xD4 (fun nw t => (peiWord dp t).2.push16 nw (peiWord dp t).1) s)

/-- 0x62 `PER label` (R358). -/
def execPer (rel : Word) (s : State) : Result :=
  .next (stackInstr 0x62 (fun nw t => t.push16 nw (s.cpu.pc + 3 + rel)) s)

/-! ## Pulls -/

/-- Pull a value of a width, then write registers from it. -/
def pullThen (w : Width) (f : Word → Cpu → Cpu) (nw : Bool) (s : State) : State :=
  let r := s.pullW nw w
  r.2.mapCpu (f r.1)

/-- 0x68 `PLA` (R350). -/
def execPla (s : State) : Result :=
  .next (stackInstr 0x68 (pullThen s.cpu.mw (fun v c => c.loadA s.cpu.mw v)) s)

/-- 0xFA `PLX` (R351). -/
def execPlx (s : State) : Result :=
  .next (stackInstr 0xFA (pullThen s.cpu.xw (fun v c => c.loadX s.cpu.xw v)) s)

/-- 0x7A `PLY` (R352). -/
def execPly (s : State) : Result :=
  .next (stackInstr 0x7A (pullThen s.cpu.xw (fun v c => c.loadY s.cpu.xw v)) s)

/-- 0x28 `PLP` (R353). -/
def execPlp (s : State) : Result :=
  .next (State.markMask s (stackInstr 0x28 (pullThen .w8 (fun v c => c.pullStatus (wordLo v))) s))

/-- 0xAB `PLB` (R354). -/
def execPlb (s : State) : Result :=
  .next (stackInstr 0xAB (pullThen .w8 (fun v c => { c with db := wordLo v }.setNZ v .w8)) s)

/-- 0x2B `PLD` (R355). -/
def execPld (s : State) : Result :=
  .next (stackInstr 0x2B (pullThen .w16 (fun v c => { c with d := v }.setNZ v .w16)) s)

end Sys2Proof.Machine
end

