-- ==== Sys2Proof/Machine/System.lean ====
section
/-! DEFINITION. Flags, modes, wait and stop, software interrupts and RTI (spec/45_status_system.md R370 to R386). -/

namespace Sys2Proof.Machine

/-! ## Flag instructions (R370 to R376) -/

/-- 0x18 `CLC` (R370). -/
def execClc (s : State) : Result :=
  .next (impliedInstr 0x18 (fun c => { c with p := { c.p with c := false } }) s)

/-- 0xD8 `CLD` (R371). -/
def execCld (s : State) : Result :=
  .next (impliedInstr 0xD8 (fun c => { c with p := { c.p with d := false } }) s)

/-- 0x58 `CLI` (R372). -/
def execCli (s : State) : Result :=
  .next (State.markMask s (impliedInstr 0x58 (fun c => { c with p := { c.p with i := false } }) s))

/-- 0xB8 `CLV` (R373). -/
def execClv (s : State) : Result :=
  .next (impliedInstr 0xB8 (fun c => { c with p := { c.p with v := false } }) s)

/-- 0x38 `SEC` (R374). -/
def execSec (s : State) : Result :=
  .next (impliedInstr 0x38 (fun c => { c with p := { c.p with c := true } }) s)

/-- 0xF8 `SED` (R375). -/
def execSed (s : State) : Result :=
  .next (impliedInstr 0xF8 (fun c => { c with p := { c.p with d := true } }) s)

/-- 0x78 `SEI` (R376). -/
def execSei (s : State) : Result :=
  .next (State.markMask s (impliedInstr 0x78 (fun c => { c with p := { c.p with i := true } }) s))

/-! ## Mode instructions (R377 to R379) -/

/-- REP's update of the registers (R377). -/
def Cpu.resetBits (mask : Byte) (c : Cpu) : Cpu :=
  { c with p := (c.p.withByte (c.p.toByte &&& ~~~mask)).forceEmulation }

/-- SEP's update of the registers (R378). -/
def Cpu.setBits (mask : Byte) (c : Cpu) : Cpu :=
  { c with p := c.p.withByte (c.p.toByte ||| mask) }.fixIndex

/-- What entering emulation mode forces (R379). -/
def Cpu.enterEmulation (c : Cpu) : Cpu :=
  { c with p := { c.p with m := true, x := true }, x := c.x &&& 0x00FF, y := c.y &&& 0x00FF, s := pageOne c.s }

/-- XCE's update of the registers (R379). -/
def Cpu.exchange (c : Cpu) : Cpu :=
  let c' := { c with p := { c.p with c := c.p.e, e := c.p.c } }
  if c'.p.e then c'.enterEmulation else c'

/-- 0xC2 `REP #const` (R377). -/
def execRep (mask : Byte) (s : State) : Result :=
  .next (State.markMask s (impliedInstr 0xC2 (Cpu.resetBits mask) s))

/-- 0xE2 `SEP #const` (R378). -/
def execSep (mask : Byte) (s : State) : Result :=
  .next (State.markMask s (impliedInstr 0xE2 (Cpu.setBits mask) s))

/-- 0xFB `XCE` (R379). -/
def execXce (s : State) : Result :=
  .next (impliedInstr 0xFB Cpu.exchange s)

/-! ## No-operation, wait and stop (R380 to R383) -/

/-- 0xEA `NOP` (R380). -/
def execNop (s : State) : Result :=
  .next (impliedInstr 0xEA (fun c => c) s)

/-- 0x42 `WDM #const` (R383). -/
def execWdm (_sig : Byte) (s : State) : Result :=
  .next (impliedInstr 0x42 (fun c => c) s)

/-- 0xCB `WAI` (R381). -/
def execWai (s : State) : Result :=
  .next { impliedInstr 0xCB (fun c => c) s with run := .waiting }

/-- 0xDB `STP` (R382). -/
def execStp (s : State) : Result :=
  .next { impliedInstr 0xDB (fun c => c) s with run := .stopped }

/-! ## Software interrupts and return from interrupt (R384 to R386) -/

/-- BRK and COP: the entry sequence with the address after the signature byte and the status image of PHP (R384, R385). -/
def softwareInterrupt (op : Byte) (kind : VectorKind) (s : State) : State :=
  State.charge op false false 0 s
    (s.enterException (noWrapOf s.params op) (s.cpu.pc + 2) s.cpu.p.toByte (vectorAddress s.cpu.p.e kind))

/-- 0x00 `BRK sig` (R384). -/
def execBrk (_sig : Byte) (s : State) : Result :=
  .next (softwareInterrupt 0x00 .brk s)

/-- 0x02 `COP sig` (R385). -/
def execCop (_sig : Byte) (s : State) : Result :=
  .next (softwareInterrupt 0x02 .cop s)

/-- 0x40 `RTI` (R386). -/
def execRti (s : State) : Result :=
  .next (State.markMask s (State.charge 0x40 false false 0 s (s.returnFromException (noWrapOf s.params 0x40))))

end Sys2Proof.Machine
end

