-- ==== Sys2Proof/Machine/Transfer.lean ====
section
/-! DEFINITION. Register transfers (spec/41_load_store_transfer.md R217 to R229). The width is the destination's, at decode (R230). -/

namespace Sys2Proof.Machine

/-- 0xAA `TAX` (R217). -/
def execTax (s : State) : Result :=
  .next (impliedInstr 0xAA (fun c => c.loadX c.xw (c.xw.trunc c.a)) s)

/-- 0xA8 `TAY` (R218). -/
def execTay (s : State) : Result :=
  .next (impliedInstr 0xA8 (fun c => c.loadY c.xw (c.xw.trunc c.a)) s)

/-- 0x8A `TXA` (R219). -/
def execTxa (s : State) : Result :=
  .next (impliedInstr 0x8A (fun c => c.loadA c.mw (c.mw.trunc c.x)) s)

/-- 0x98 `TYA` (R220). -/
def execTya (s : State) : Result :=
  .next (impliedInstr 0x98 (fun c => c.loadA c.mw (c.mw.trunc c.y)) s)

/-- 0x9B `TXY` (R221). -/
def execTxy (s : State) : Result :=
  .next (impliedInstr 0x9B (fun c => c.loadY c.xw (c.xw.trunc c.x)) s)

/-- 0xBB `TYX` (R222). -/
def execTyx (s : State) : Result :=
  .next (impliedInstr 0xBB (fun c => c.loadX c.xw (c.xw.trunc c.y)) s)

/-- 0xBA `TSX` (R223). -/
def execTsx (s : State) : Result :=
  .next (impliedInstr 0xBA (fun c => c.loadX c.xw (c.xw.trunc c.s)) s)

/-- 0x9A `TXS` (R224). -/
def execTxs (s : State) : Result :=
  .next (impliedInstr 0x9A (fun c => c.setS c.x) s)

/-- 0x1B `TCS` (R225). -/
def execTcs (s : State) : Result :=
  .next (impliedInstr 0x1B (fun c => c.setS c.a) s)

/-- 0x3B `TSC` (R226). -/
def execTsc (s : State) : Result :=
  .next (impliedInstr 0x3B (fun c => { c with a := c.s }.setNZ c.s .w16) s)

/-- 0x5B `TCD` (R227). -/
def execTcd (s : State) : Result :=
  .next (impliedInstr 0x5B (fun c => { c with d := c.a }.setNZ c.a .w16) s)

/-- 0x7B `TDC` (R228). -/
def execTdc (s : State) : Result :=
  .next (impliedInstr 0x7B (fun c => { c with a := c.d }.setNZ c.d .w16) s)

/-- A with its two bytes exchanged (R229). -/
def swapBytes (v : Word) : Word := wordOf (wordLo v) (wordHi v)

/-- 0xEB `XBA` (R229). -/
def execXba (s : State) : Result :=
  .next (impliedInstr 0xEB (fun c => { c with a := swapBytes c.a }.setNZ (swapBytes c.a) .w8) s)

end Sys2Proof.Machine
end

