-- ==== Sys2Proof/Machine/Dispatch.lean ====
section
/-! DEFINITION. The dispatch of an instruction to its meaning, one arm per constructor. -/

namespace Sys2Proof.Machine

def exec (i : Instr) (s : State) : Host.Outcome State Fault Refusal :=
  match i with
  | .brk sig => Sys2Proof.Machine.execBrk sig s
  | .oraIndX dp => Sys2Proof.Machine.execOraIndX dp s
  | .cop sig => Sys2Proof.Machine.execCop sig s
  | .oraSr sr => Sys2Proof.Machine.execOraSr sr s
  | .tsbDir dp => Sys2Proof.Machine.execTsbDir dp s
  | .oraDir dp => Sys2Proof.Machine.execOraDir dp s
  | .aslDir dp => Sys2Proof.Machine.execAslDir dp s
  | .oraIndLong dp => Sys2Proof.Machine.execOraIndLong dp s
  | .php => Sys2Proof.Machine.execPhp s
  | .oraImm imm => Sys2Proof.Machine.execOraImm imm s
  | .aslAcc => Sys2Proof.Machine.execAslAcc s
  | .phd => Sys2Proof.Machine.execPhd s
  | .tsbAbs addr => Sys2Proof.Machine.execTsbAbs addr s
  | .oraAbs addr => Sys2Proof.Machine.execOraAbs addr s
  | .aslAbs addr => Sys2Proof.Machine.execAslAbs addr s
  | .oraLong long => Sys2Proof.Machine.execOraLong long s
  | .bpl rel => Sys2Proof.Machine.execBpl rel s
  | .oraIndY dp => Sys2Proof.Machine.execOraIndY dp s
  | .oraInd dp => Sys2Proof.Machine.execOraInd dp s
  | .oraSrIndY sr => Sys2Proof.Machine.execOraSrIndY sr s
  | .trbDir dp => Sys2Proof.Machine.execTrbDir dp s
  | .oraDirX dp => Sys2Proof.Machine.execOraDirX dp s
  | .aslDirX dp => Sys2Proof.Machine.execAslDirX dp s
  | .oraIndLongY dp => Sys2Proof.Machine.execOraIndLongY dp s
  | .clc => Sys2Proof.Machine.execClc s
  | .oraAbsY addr => Sys2Proof.Machine.execOraAbsY addr s
  | .incAcc => Sys2Proof.Machine.execIncAcc s
  | .tcs => Sys2Proof.Machine.execTcs s
  | .trbAbs addr => Sys2Proof.Machine.execTrbAbs addr s
  | .oraAbsX addr => Sys2Proof.Machine.execOraAbsX addr s
  | .aslAbsX addr => Sys2Proof.Machine.execAslAbsX addr s
  | .oraLongX long => Sys2Proof.Machine.execOraLongX long s
  | .jsrAbs addr => Sys2Proof.Machine.execJsrAbs addr s
  | .andIndX dp => Sys2Proof.Machine.execAndIndX dp s
  | .jsl long => Sys2Proof.Machine.execJsl long s
  | .andSr sr => Sys2Proof.Machine.execAndSr sr s
  | .bitDir dp => Sys2Proof.Machine.execBitDir dp s
  | .andDir dp => Sys2Proof.Machine.execAndDir dp s
  | .rolDir dp => Sys2Proof.Machine.execRolDir dp s
  | .andIndLong dp => Sys2Proof.Machine.execAndIndLong dp s
  | .plp => Sys2Proof.Machine.execPlp s
  | .andImm imm => Sys2Proof.Machine.execAndImm imm s
  | .rolAcc => Sys2Proof.Machine.execRolAcc s
  | .pld => Sys2Proof.Machine.execPld s
  | .bitAbs addr => Sys2Proof.Machine.execBitAbs addr s
  | .andAbs addr => Sys2Proof.Machine.execAndAbs addr s
  | .rolAbs addr => Sys2Proof.Machine.execRolAbs addr s
  | .andLong long => Sys2Proof.Machine.execAndLong long s
  | .bmi rel => Sys2Proof.Machine.execBmi rel s
  | .andIndY dp => Sys2Proof.Machine.execAndIndY dp s
  | .andInd dp => Sys2Proof.Machine.execAndInd dp s
  | .andSrIndY sr => Sys2Proof.Machine.execAndSrIndY sr s
  | .bitDirX dp => Sys2Proof.Machine.execBitDirX dp s
  | .andDirX dp => Sys2Proof.Machine.execAndDirX dp s
  | .rolDirX dp => Sys2Proof.Machine.execRolDirX dp s
  | .andIndLongY dp => Sys2Proof.Machine.execAndIndLongY dp s
  | .sec => Sys2Proof.Machine.execSec s
  | .andAbsY addr => Sys2Proof.Machine.execAndAbsY addr s
  | .decAcc => Sys2Proof.Machine.execDecAcc s
  | .tsc => Sys2Proof.Machine.execTsc s
  | .bitAbsX addr => Sys2Proof.Machine.execBitAbsX addr s
  | .andAbsX addr => Sys2Proof.Machine.execAndAbsX addr s
  | .rolAbsX addr => Sys2Proof.Machine.execRolAbsX addr s
  | .andLongX long => Sys2Proof.Machine.execAndLongX long s
  | .rti => Sys2Proof.Machine.execRti s
  | .eorIndX dp => Sys2Proof.Machine.execEorIndX dp s
  | .wdm sig => Sys2Proof.Machine.execWdm sig s
  | .eorSr sr => Sys2Proof.Machine.execEorSr sr s
  | .mvp dst src => Sys2Proof.Machine.execMvp dst src s
  | .eorDir dp => Sys2Proof.Machine.execEorDir dp s
  | .lsrDir dp => Sys2Proof.Machine.execLsrDir dp s
  | .eorIndLong dp => Sys2Proof.Machine.execEorIndLong dp s
  | .pha => Sys2Proof.Machine.execPha s
  | .eorImm imm => Sys2Proof.Machine.execEorImm imm s
  | .lsrAcc => Sys2Proof.Machine.execLsrAcc s
  | .phk => Sys2Proof.Machine.execPhk s
  | .jmpAbs addr => Sys2Proof.Machine.execJmpAbs addr s
  | .eorAbs addr => Sys2Proof.Machine.execEorAbs addr s
  | .lsrAbs addr => Sys2Proof.Machine.execLsrAbs addr s
  | .eorLong long => Sys2Proof.Machine.execEorLong long s
  | .bvc rel => Sys2Proof.Machine.execBvc rel s
  | .eorIndY dp => Sys2Proof.Machine.execEorIndY dp s
  | .eorInd dp => Sys2Proof.Machine.execEorInd dp s
  | .eorSrIndY sr => Sys2Proof.Machine.execEorSrIndY sr s
  | .mvn dst src => Sys2Proof.Machine.execMvn dst src s
  | .eorDirX dp => Sys2Proof.Machine.execEorDirX dp s
  | .lsrDirX dp => Sys2Proof.Machine.execLsrDirX dp s
  | .eorIndLongY dp => Sys2Proof.Machine.execEorIndLongY dp s
  | .cli => Sys2Proof.Machine.execCli s
  | .eorAbsY addr => Sys2Proof.Machine.execEorAbsY addr s
  | .phy => Sys2Proof.Machine.execPhy s
  | .tcd => Sys2Proof.Machine.execTcd s
  | .jmlLong long => Sys2Proof.Machine.execJmlLong long s
  | .eorAbsX addr => Sys2Proof.Machine.execEorAbsX addr s
  | .lsrAbsX addr => Sys2Proof.Machine.execLsrAbsX addr s
  | .eorLongX long => Sys2Proof.Machine.execEorLongX long s
  | .rts => Sys2Proof.Machine.execRts s
  | .adcIndX dp => Sys2Proof.Machine.execAdcIndX dp s
  | .per rel => Sys2Proof.Machine.execPer rel s
  | .adcSr sr => Sys2Proof.Machine.execAdcSr sr s
  | .stzDir dp => Sys2Proof.Machine.execStzDir dp s
  | .adcDir dp => Sys2Proof.Machine.execAdcDir dp s
  | .rorDir dp => Sys2Proof.Machine.execRorDir dp s
  | .adcIndLong dp => Sys2Proof.Machine.execAdcIndLong dp s
  | .pla => Sys2Proof.Machine.execPla s
  | .adcImm imm => Sys2Proof.Machine.execAdcImm imm s
  | .rorAcc => Sys2Proof.Machine.execRorAcc s
  | .rtl => Sys2Proof.Machine.execRtl s
  | .jmpAbsInd addr => Sys2Proof.Machine.execJmpAbsInd addr s
  | .adcAbs addr => Sys2Proof.Machine.execAdcAbs addr s
  | .rorAbs addr => Sys2Proof.Machine.execRorAbs addr s
  | .adcLong long => Sys2Proof.Machine.execAdcLong long s
  | .bvs rel => Sys2Proof.Machine.execBvs rel s
  | .adcIndY dp => Sys2Proof.Machine.execAdcIndY dp s
  | .adcInd dp => Sys2Proof.Machine.execAdcInd dp s
  | .adcSrIndY sr => Sys2Proof.Machine.execAdcSrIndY sr s
  | .stzDirX dp => Sys2Proof.Machine.execStzDirX dp s
  | .adcDirX dp => Sys2Proof.Machine.execAdcDirX dp s
  | .rorDirX dp => Sys2Proof.Machine.execRorDirX dp s
  | .adcIndLongY dp => Sys2Proof.Machine.execAdcIndLongY dp s
  | .sei => Sys2Proof.Machine.execSei s
  | .adcAbsY addr => Sys2Proof.Machine.execAdcAbsY addr s
  | .ply => Sys2Proof.Machine.execPly s
  | .tdc => Sys2Proof.Machine.execTdc s
  | .jmpAbsIndX addr => Sys2Proof.Machine.execJmpAbsIndX addr s
  | .adcAbsX addr => Sys2Proof.Machine.execAdcAbsX addr s
  | .rorAbsX addr => Sys2Proof.Machine.execRorAbsX addr s
  | .adcLongX long => Sys2Proof.Machine.execAdcLongX long s
  | .bra rel => Sys2Proof.Machine.execBra rel s
  | .staIndX dp => Sys2Proof.Machine.execStaIndX dp s
  | .brl rel => Sys2Proof.Machine.execBrl rel s
  | .staSr sr => Sys2Proof.Machine.execStaSr sr s
  | .styDir dp => Sys2Proof.Machine.execStyDir dp s
  | .staDir dp => Sys2Proof.Machine.execStaDir dp s
  | .stxDir dp => Sys2Proof.Machine.execStxDir dp s
  | .staIndLong dp => Sys2Proof.Machine.execStaIndLong dp s
  | .dey => Sys2Proof.Machine.execDey s
  | .bitImm imm => Sys2Proof.Machine.execBitImm imm s
  | .txa => Sys2Proof.Machine.execTxa s
  | .phb => Sys2Proof.Machine.execPhb s
  | .styAbs addr => Sys2Proof.Machine.execStyAbs addr s
  | .staAbs addr => Sys2Proof.Machine.execStaAbs addr s
  | .stxAbs addr => Sys2Proof.Machine.execStxAbs addr s
  | .staLong long => Sys2Proof.Machine.execStaLong long s
  | .bcc rel => Sys2Proof.Machine.execBcc rel s
  | .staIndY dp => Sys2Proof.Machine.execStaIndY dp s
  | .staInd dp => Sys2Proof.Machine.execStaInd dp s
  | .staSrIndY sr => Sys2Proof.Machine.execStaSrIndY sr s
  | .styDirX dp => Sys2Proof.Machine.execStyDirX dp s
  | .staDirX dp => Sys2Proof.Machine.execStaDirX dp s
  | .stxDirY dp => Sys2Proof.Machine.execStxDirY dp s
  | .staIndLongY dp => Sys2Proof.Machine.execStaIndLongY dp s
  | .tya => Sys2Proof.Machine.execTya s
  | .staAbsY addr => Sys2Proof.Machine.execStaAbsY addr s
  | .txs => Sys2Proof.Machine.execTxs s
  | .txy => Sys2Proof.Machine.execTxy s
  | .stzAbs addr => Sys2Proof.Machine.execStzAbs addr s
  | .staAbsX addr => Sys2Proof.Machine.execStaAbsX addr s
  | .stzAbsX addr => Sys2Proof.Machine.execStzAbsX addr s
  | .staLongX long => Sys2Proof.Machine.execStaLongX long s
  | .ldyImm imm => Sys2Proof.Machine.execLdyImm imm s
  | .ldaIndX dp => Sys2Proof.Machine.execLdaIndX dp s
  | .ldxImm imm => Sys2Proof.Machine.execLdxImm imm s
  | .ldaSr sr => Sys2Proof.Machine.execLdaSr sr s
  | .ldyDir dp => Sys2Proof.Machine.execLdyDir dp s
  | .ldaDir dp => Sys2Proof.Machine.execLdaDir dp s
  | .ldxDir dp => Sys2Proof.Machine.execLdxDir dp s
  | .ldaIndLong dp => Sys2Proof.Machine.execLdaIndLong dp s
  | .tay => Sys2Proof.Machine.execTay s
  | .ldaImm imm => Sys2Proof.Machine.execLdaImm imm s
  | .tax => Sys2Proof.Machine.execTax s
  | .plb => Sys2Proof.Machine.execPlb s
  | .ldyAbs addr => Sys2Proof.Machine.execLdyAbs addr s
  | .ldaAbs addr => Sys2Proof.Machine.execLdaAbs addr s
  | .ldxAbs addr => Sys2Proof.Machine.execLdxAbs addr s
  | .ldaLong long => Sys2Proof.Machine.execLdaLong long s
  | .bcs rel => Sys2Proof.Machine.execBcs rel s
  | .ldaIndY dp => Sys2Proof.Machine.execLdaIndY dp s
  | .ldaInd dp => Sys2Proof.Machine.execLdaInd dp s
  | .ldaSrIndY sr => Sys2Proof.Machine.execLdaSrIndY sr s
  | .ldyDirX dp => Sys2Proof.Machine.execLdyDirX dp s
  | .ldaDirX dp => Sys2Proof.Machine.execLdaDirX dp s
  | .ldxDirY dp => Sys2Proof.Machine.execLdxDirY dp s
  | .ldaIndLongY dp => Sys2Proof.Machine.execLdaIndLongY dp s
  | .clv => Sys2Proof.Machine.execClv s
  | .ldaAbsY addr => Sys2Proof.Machine.execLdaAbsY addr s
  | .tsx => Sys2Proof.Machine.execTsx s
  | .tyx => Sys2Proof.Machine.execTyx s
  | .ldyAbsX addr => Sys2Proof.Machine.execLdyAbsX addr s
  | .ldaAbsX addr => Sys2Proof.Machine.execLdaAbsX addr s
  | .ldxAbsY addr => Sys2Proof.Machine.execLdxAbsY addr s
  | .ldaLongX long => Sys2Proof.Machine.execLdaLongX long s
  | .cpyImm imm => Sys2Proof.Machine.execCpyImm imm s
  | .cmpIndX dp => Sys2Proof.Machine.execCmpIndX dp s
  | .rep mask => Sys2Proof.Machine.execRep mask s
  | .cmpSr sr => Sys2Proof.Machine.execCmpSr sr s
  | .cpyDir dp => Sys2Proof.Machine.execCpyDir dp s
  | .cmpDir dp => Sys2Proof.Machine.execCmpDir dp s
  | .decDir dp => Sys2Proof.Machine.execDecDir dp s
  | .cmpIndLong dp => Sys2Proof.Machine.execCmpIndLong dp s
  | .iny => Sys2Proof.Machine.execIny s
  | .cmpImm imm => Sys2Proof.Machine.execCmpImm imm s
  | .dex => Sys2Proof.Machine.execDex s
  | .wai => Sys2Proof.Machine.execWai s
  | .cpyAbs addr => Sys2Proof.Machine.execCpyAbs addr s
  | .cmpAbs addr => Sys2Proof.Machine.execCmpAbs addr s
  | .decAbs addr => Sys2Proof.Machine.execDecAbs addr s
  | .cmpLong long => Sys2Proof.Machine.execCmpLong long s
  | .bne rel => Sys2Proof.Machine.execBne rel s
  | .cmpIndY dp => Sys2Proof.Machine.execCmpIndY dp s
  | .cmpInd dp => Sys2Proof.Machine.execCmpInd dp s
  | .cmpSrIndY sr => Sys2Proof.Machine.execCmpSrIndY sr s
  | .pei dp => Sys2Proof.Machine.execPei dp s
  | .cmpDirX dp => Sys2Proof.Machine.execCmpDirX dp s
  | .decDirX dp => Sys2Proof.Machine.execDecDirX dp s
  | .cmpIndLongY dp => Sys2Proof.Machine.execCmpIndLongY dp s
  | .cld => Sys2Proof.Machine.execCld s
  | .cmpAbsY addr => Sys2Proof.Machine.execCmpAbsY addr s
  | .phx => Sys2Proof.Machine.execPhx s
  | .stp => Sys2Proof.Machine.execStp s
  | .jmlAbsIndLong addr => Sys2Proof.Machine.execJmlAbsIndLong addr s
  | .cmpAbsX addr => Sys2Proof.Machine.execCmpAbsX addr s
  | .decAbsX addr => Sys2Proof.Machine.execDecAbsX addr s
  | .cmpLongX long => Sys2Proof.Machine.execCmpLongX long s
  | .cpxImm imm => Sys2Proof.Machine.execCpxImm imm s
  | .sbcIndX dp => Sys2Proof.Machine.execSbcIndX dp s
  | .sep mask => Sys2Proof.Machine.execSep mask s
  | .sbcSr sr => Sys2Proof.Machine.execSbcSr sr s
  | .cpxDir dp => Sys2Proof.Machine.execCpxDir dp s
  | .sbcDir dp => Sys2Proof.Machine.execSbcDir dp s
  | .incDir dp => Sys2Proof.Machine.execIncDir dp s
  | .sbcIndLong dp => Sys2Proof.Machine.execSbcIndLong dp s
  | .inx => Sys2Proof.Machine.execInx s
  | .sbcImm imm => Sys2Proof.Machine.execSbcImm imm s
  | .nop => Sys2Proof.Machine.execNop s
  | .xba => Sys2Proof.Machine.execXba s
  | .cpxAbs addr => Sys2Proof.Machine.execCpxAbs addr s
  | .sbcAbs addr => Sys2Proof.Machine.execSbcAbs addr s
  | .incAbs addr => Sys2Proof.Machine.execIncAbs addr s
  | .sbcLong long => Sys2Proof.Machine.execSbcLong long s
  | .beq rel => Sys2Proof.Machine.execBeq rel s
  | .sbcIndY dp => Sys2Proof.Machine.execSbcIndY dp s
  | .sbcInd dp => Sys2Proof.Machine.execSbcInd dp s
  | .sbcSrIndY sr => Sys2Proof.Machine.execSbcSrIndY sr s
  | .pea addr => Sys2Proof.Machine.execPea addr s
  | .sbcDirX dp => Sys2Proof.Machine.execSbcDirX dp s
  | .incDirX dp => Sys2Proof.Machine.execIncDirX dp s
  | .sbcIndLongY dp => Sys2Proof.Machine.execSbcIndLongY dp s
  | .sed => Sys2Proof.Machine.execSed s
  | .sbcAbsY addr => Sys2Proof.Machine.execSbcAbsY addr s
  | .plx => Sys2Proof.Machine.execPlx s
  | .xce => Sys2Proof.Machine.execXce s
  | .jsrAbsIndX addr => Sys2Proof.Machine.execJsrAbsIndX addr s
  | .sbcAbsX addr => Sys2Proof.Machine.execSbcAbsX addr s
  | .incAbsX addr => Sys2Proof.Machine.execIncAbsX addr s
  | .sbcLongX long => Sys2Proof.Machine.execSbcLongX long s

end Sys2Proof.Machine
end

