-- ==== Sys2Proof/Machine/Fetch.lean ====
section
/-! DEFINITION. Fetching an instruction (spec/30_encoding.md R136), and placing one where the machine fetches next. -/

namespace Sys2Proof.Machine

/-- Read `n` instruction bytes from an offset of a bank on; the offset wraps within the bank (R29, R136). -/
def State.fetchBytes (bank : Byte) : Word → Nat → State → List Byte × State
  | _, 0, s => ([], s)
  | off, n + 1, s =>
    let b := s.read8 (addr24 bank off)
    let r := State.fetchBytes bank (off + 1) n b.2
    (b.1 :: r.1, r.2)

/-- Fetch the instruction at PB:PC (R136): the opcode byte, then as many operand bytes as the state at decode says (R134). -/
def State.fetch (s : State) : Instr × State :=
  let op := s.read8 (addr24 s.cpu.pb s.cpu.pc)
  let r := State.fetchBytes s.cpu.pb (s.cpu.pc + 1) (operandBytes s.cpu.widths op.1) op.2
  (assemble op.1 r.1, r.2)

/-! ## Placing an instruction (the host's `withFetchWord`, log 4) -/

/-- A cartridge file with nothing in it but its checksum pair: the image of spec/95_test_vectors.md VH1. -/
def blankImage : RomImage := ⟨0x8000, [(0x7FDC, 0x7F), (0x7FDD, 0x73), (0x7FDE, 0x80), (0x7FDF, 0x8C)]⟩

/-- The cartridge of that file: LoROM, no copier header. -/
def blankCartridge : Cartridge := Hypothesis.cartridge blankImage ⟨true, false⟩

/-- Put a byte into a cell from outside the machine, ROM included. -/
def Bus.pokeCell (b : Bus) (c : CellId) (v : Byte) : Bus :=
  match c.1 with
  | .rom => { b with cart := b.cart.map fun cart => { cart with rom := cart.rom.write c.2 v } }
  | _ => b.setCell c v

/-- Put a byte where a read at an address finds it. -/
def Bus.pokeAt (b : Bus) (a : Addr) (v : Byte) : Bus :=
  match b.locate a with
  | some c => b.pokeCell c v
  | none => b

/-- Whether a read at an address finds a memory cell directly (not through WMDATA, whose reads move). -/
def Bus.placeable (b : Bus) (a : Addr) : Bool := decide (getTarget a ≠ .wramPort) && (b.locate a).isSome

/-- The offsets of the four bytes an instruction can have, from PC on. -/
def fetchOffsets (pc : Word) : List Word := [pc, pc + 1, pc + 2, pc + 3]

/-- Put bytes at offsets of a bank. -/
def Bus.pokeAll (bank : Byte) : List Word → List Byte → Bus → Bus
  | off :: offs, v :: vs, b => Bus.pokeAll bank offs vs (b.pokeAt (addr24 bank off) v)
  | _, _, b => b

/-- Make the next boundary quiet: no reset, NMI or IRQ, no agent. -/
def quietNext : List BoundaryInput → List BoundaryInput
  | [] => []
  | _ :: rest => {} :: rest

/-- The machine about to fetch: a cartridge inserted, running, no interrupt at the next boundary. -/
def State.aboutToFetch (s : State) : State :=
  { s with
    bus := { s.bus with cart := some (s.bus.cart.getD blankCartridge) }
    run := .running, nmiPending := false, inputs := quietNext s.inputs }

/-- Where an instruction can be placed: PB:PC if all four bytes are memory there, else the first byte of WRAM. -/
def State.atPlaceable (s : State) : State :=
  if (fetchOffsets s.cpu.pc).all fun off => s.bus.placeable (addr24 s.cpu.pb off) then s
  else s.mapCpu fun c => { c with pb := 0x7E, pc := 0 }

/-- The bytes placed count as written. -/
def placedMarks (b : Bus) (bank : Byte) (offs : List Word) (m : Marks) : Marks :=
  offs.foldl (fun m off => m.writeCell (b.locate (addr24 bank off))) m

/-- The machine with the bytes stored where it fetches its next instruction. -/
def State.placeNext (s : State) (bytes : List Byte) : State :=
  let t := s.aboutToFetch.atPlaceable
  { t with
    bus := Bus.pokeAll t.cpu.pb (fetchOffsets t.cpu.pc) bytes t.bus
    marks := t.marksAfter (placedMarks t.bus t.cpu.pb (fetchOffsets t.cpu.pc)) }

end Sys2Proof.Machine
end

