-- ==== Sys2Proof/Machine/Boundary.lean ====
section
/-! DEFINITION. One boundary of the machine: the external agent, RESET, NMI, IRQ, the wait and stop states, and the execution of
one instruction (spec/60_exceptions.md R412 to R426, spec/20_memory.md R77). -/

namespace Sys2Proof.Machine

/-- The external agent's writes between two instructions (R77). -/
def Bus.agentWrites (ws : List (BitVec 17 × Byte)) (b : Bus) : Bus :=
  ws.foldl (fun b w => b.setCell (.wram, w.1.toNat) w.2) b

/-- The external agent's step (R77); it does nothing unless `EXT_AGENT_WRAM_ACCESS` is true. -/
def State.agentStep (inp : BoundaryInput) (s : State) : State :=
  if s.params.extAgent then
    let b := s.bus.agentWrites inp.agentWrites
    { s with bus := { b with wmAddr := inp.agentWmAddr.getD b.wmAddr }, marks := s.marksAfter (agentMarks inp) }
  else s

/-- The NMI edge detector (R412). -/
def State.latchNmi (line : Bool) (s : State) : State :=
  { s with nmiPending := s.nmiPending || (!s.nmiPrev && line), nmiPrev := line }

/-- `Ieff` (R418): P.I, or right after one of the six instructions a draw of the I before it and the I after it; the draw is taken
only where the two differ. -/
def State.effectiveMask (s : State) : Bool × State :=
  match s.iBefore with
  | none => (s.cpu.p.i, s)
  | some old =>
    if old = s.cpu.p.i then (s.cpu.p.i, s)
    else (if Config.maskDraw s.draws then old else s.cpu.p.i, { s with draws := s.draws + 1 })

/-- Leave a boundary for an entry or an instruction: running, and no longer right after one of the six instructions of R418. -/
def State.leaveBoundary (s : State) : State := { s with run := .running, iBefore := none }

/-- Fetch and execute one instruction (R136, R417), its reads of drawn registers and flags noted. -/
def State.executeNext (s : State) : Result := exec s.fetch.1 (s.fetch.2.noteInstr s.fetch.1)

/-- A hardware interrupt entry (R420), its reads of drawn registers and flags noted. -/
def State.takeInterrupt (kind : VectorKind) (s : State) : State := (s.note fun m => m.read entryReads).interrupt kind

/-- The part of a boundary after NMI: IRQ, the idle step, or one instruction (R417, R425). -/
def State.irqOrExecute (irq : Bool) (s : State) : Result :=
  if irq then
    let m := s.effectiveMask
    if m.1 then m.2.leaveBoundary.executeNext else .next (m.2.leaveBoundary.takeInterrupt .irq)
  else if s.run = .waiting then .next s
  else s.leaveBoundary.executeNext

/-- The part of a boundary after RESET: NMI, then IRQ (R417). -/
def State.nmiOrLater (inp : BoundaryInput) (s : State) : Result :=
  let t := s.latchNmi inp.nmi
  if t.nmiPending then .next ({ t.leaveBoundary with nmiPending := false }.takeInterrupt .nmi)
  else t.irqOrExecute inp.irq

/-- One boundary of a machine with a cartridge, its input taken (R417): stopped without a reset nothing changes, the agent included
(R426); else the agent acts, then RESET, NMI, IRQ or one instruction. -/
def State.boundaryWith (inp : BoundaryInput) (s : State) : Result :=
  if inp.reset then .next ((s.agentStep inp).resetSequence inp.nmi)
  else if s.run = .stopped then .next s
  else (s.agentStep inp).nmiOrLater inp

/-- Under `UNINIT_READ = FAULT` a step in which an unwritten value has been read is the fault of R54. -/
def faultUnwritten : Result → Result
  | .next t => if t.readUnwritten then .fault .uninitialisedRead else .next t
  | .fault f => .fault f
  | .refused r => .refused r

/-- `Boundary(k)` (R417); a machine with no cartridge does not step (R434). -/
def State.boundary (s : State) : Result :=
  if s.bus.cart.isNone then .refused .noCartridge
  else faultUnwritten (s.takeInput.2.boundaryWith s.takeInput.1)

end Sys2Proof.Machine
end

