-- ==== Sys2Proof/Machine/Step.lean ====
section
/-! DEFINITION. The step of the machine, and the placing of a table word where it fetches next. -/

namespace Sys2Proof.Machine

/-- One step: one boundary of spec/60_exceptions.md R417. -/
def step (s : State) : Host.Outcome State Fault Refusal := s.boundary

/-- The machine with a table word's instruction stored where it fetches its next instruction (log 4). -/
def State.withFetchWord (s : State) (nbits w : Nat) : State := s.placeNext (tableWordBytes nbits w)

end Sys2Proof.Machine
end

