-- ==== Sys2Proof/Safety.lean ====
section
/-! DEFINITION. What holds of every state of a safe run: the register invariants of spec/10_state.md R42 and R43 and the canonical
form of every memory and of the record of `UNINIT_READ = FAULT`. -/

namespace Sys2Proof.Machine

/-- The emulation-mode invariant (R42) and the index-width invariant (R43). -/
def Cpu.inv (c : Cpu) : Bool :=
  (!c.p.e || (c.p.m && c.p.x && (wordHi c.s == 0x01))) &&
  (!c.p.x || ((wordHi c.x == 0) && (wordHi c.y == 0)))

/-- A cartridge's ROM is in canonical form. -/
def Cartridge.wf (c : Cartridge) : Bool := c.rom.wf c.romLen

/-- Every memory of the bus is in canonical form, within its size (R46, R48). -/
def Bus.wf (b : Bus) : Bool :=
  b.wram.wf 0x20000 && b.sram1.wf 0x70000 && b.sram2.wf 0x10000 && b.sramH.wf 0x40000 && b.cart.all Cartridge.wf

/-- The record is in canonical form: its cells as a memory, its unwritten values in the order of reset, each once at most. -/
def Marks.wf (m : Marks) : Bool := m.cells.wf ramCells && m.unwritten.isSublist State.reset.marks.unwritten

/-- The invariant of the machine. -/
def State.inv (s : State) : Bool := s.cpu.inv && s.bus.wf && s.marks.wf

end Sys2Proof.Machine
end

