-- ==== Sys2Proof/Certificates/Slice0/Obligations.lean ====
section
/-! DEFINITION. The statements for the provers, drawn from the numbered rules of spec/. Results are given as numbers: a value of a
width `w` is its number below 2^(8w), and every register, flag and store is computed from such numbers. -/

namespace Sys2Proof.Claims
open Sys2Proof.Machine

/-! ## Numbers, flags and registers -/

/-- 2^(8w): how many values a width has. -/
def size (w : Width) : Nat := 2 ^ (8 * w.bytes)

/-- The number in the low `w` bytes of a word. -/
def low (w : Width) (v : Word) : Nat := v.toNat % size w

/-- The status with N and Z of a result below `size w` (R40). -/
def withNZ (p : Status) (w : Width) (r : Nat) : Status :=
  { p with n := decide (size w / 2 ≤ r), z := decide (r = 0) }

/-- The accumulator after a write of a result of a width: an 8-bit write keeps the high byte (R22). -/
def writtenA (w : Width) (a : Word) (r : Nat) : Word :=
  match w with
  | .w8 => BitVec.ofNat 16 (a.toNat / 256 * 256 + r)
  | .w16 => BitVec.ofNat 16 r

/-- A number of a width read as a two's complement number. -/
def signed (w : Width) (r : Nat) : Int := if size w / 2 ≤ r then (r : Int) - size w else r

/-- A two's complement number does not fit a width. -/
def overflows (w : Width) (r : Int) : Bool := decide (r < -(size w / 2 : Nat) ∨ ((size w / 2 : Nat) : Int) ≤ r)

/-- The number of the status byte: N V M X D I Z C from bit 7 to bit 0 (R32). -/
def statusNumber (p : Status) : Nat :=
  128 * p.n.toNat + 64 * p.v.toNat + 32 * p.m.toNat + 16 * p.x.toNat + 8 * p.d.toNat + 4 * p.i.toNat + 2 * p.z.toNat + p.c.toNat

/-- The register file right after the instruction: PC at the next instruction (R136). -/
def advance (i : Instr) (s : State) (c : Cpu) : Cpu :=
  { c with pc := BitVec.ofNat 16 (s.cpu.pc.toNat + totalFetchBytes s.cpu.widths i.opcode) }

/-! ## Frames -/

/-- What most instructions leave alone: the run state, the NMI latches, the mark of R418, the count of draws, the parameters, the
inputs to come, the cartridge, and where UNINIT_READ is DRAW the model's record of what has been written (log 5). -/
def Frame (s t : State) : Prop :=
  t.run = s.run ∧ t.nmiPending = s.nmiPending ∧ t.nmiPrev = s.nmiPrev ∧ t.iBefore = s.iBefore ∧ t.draws = s.draws ∧
  t.params = s.params ∧ t.inputs = s.inputs ∧ t.bus.cart = s.bus.cart ∧ (s.params.uninitRead = .draw → t.marks = s.marks)

/-- Every byte of every memory of the block (WRAM, SRAM, ROM) reads as before. -/
def MemoryKept (s t : State) : Prop := ∀ c : CellId, t.bus.cellByte c = s.bus.cellByte c

/-- The instruction touches registers only: it ends with the registers `c`, PC advanced. -/
def RegistersOnly (i : Instr) (s : State) (c : Cpu) : Prop :=
  ∃ t, exec i s = .next t ∧ t.cpu = advance i s c ∧ t.bus = s.bus ∧ Frame s t

/-- The instruction reads its operand of a width and then writes registers from its number; no memory changes, and the bus is as
the operand's reads leave it. -/
def ReadsOperand (i : Instr) (s : State) (w : Width) (regs : Nat → Cpu) : Prop :=
  let o := readOperand i.operand w s
  ∃ t, exec i s = .next t ∧ t.cpu = advance i s (regs o.value.toNat) ∧ t.bus = o.st.bus ∧ MemoryKept s t ∧ Frame s t

/-! ## Stores -/

/-- The bus after a store, low byte first (R171). -/
def storeLowFirst (ea : EA) (w : Width) (v : Nat) (b : Bus) : Bus :=
  match w with
  | .w8 => b.write ea.addr (BitVec.ofNat 8 v)
  | .w16 => (b.write ea.addr (BitVec.ofNat 8 v)).write ea.next (BitVec.ofNat 8 (v / 256))

/-- The cells that store writes. -/
def cellsLowFirst (ea : EA) (w : Width) (v : Nat) (b : Bus) : List CellId :=
  match w with
  | .w8 => (b.storeCell ea.addr).toList
  | .w16 => (b.storeCell ea.addr).toList ++ ((b.write ea.addr (BitVec.ofNat 8 v)).storeCell ea.next).toList

/-- The bus after the store of a read-modify-write, high byte first (R171). -/
def storeHighFirst (ea : EA) (w : Width) (v : Nat) (b : Bus) : Bus :=
  match w with
  | .w8 => b.write ea.addr (BitVec.ofNat 8 v)
  | .w16 => (b.write ea.next (BitVec.ofNat 8 (v / 256))).write ea.addr (BitVec.ofNat 8 v)

/-- The cells that store writes. -/
def cellsHighFirst (ea : EA) (w : Width) (v : Nat) (b : Bus) : List CellId :=
  match w with
  | .w8 => (b.storeCell ea.addr).toList
  | .w16 => (b.storeCell ea.next).toList ++ ((b.write ea.next (BitVec.ofNat 8 (v / 256))).storeCell ea.addr).toList

/-- The instruction stores the number `v` of a width at its effective address: registers but PC stay, and every byte of memory
outside the stored cells. -/
def StoresAt (i : Instr) (s : State) (w : Width) (v : Nat) : Prop :=
  let r := resolve i.operand s
  ∃ t, exec i s = .next t ∧ t.cpu = advance i s s.cpu ∧ t.bus = storeLowFirst r.ea w v r.st.bus ∧
    (∀ c, c ∉ cellsLowFirst r.ea w v r.st.bus → t.bus.cellByte c = s.bus.cellByte c) ∧ Frame s t

/-- The instruction reads a number of a width at its effective address and stores `f` of it there, modulo the width, high byte
first; the status becomes `g` of the number read and the number stored. -/
def ModifiesMemory (i : Instr) (s : State) (w : Width) (f : Nat → Nat) (g : Nat → Nat → Status) : Prop :=
  let r := resolve i.operand s
  let m := r.st.readEA r.ea w
  let v := f m.1.toNat % size w
  ∃ t, exec i s = .next t ∧ t.cpu = advance i s { s.cpu with p := g m.1.toNat v } ∧
    t.bus = storeHighFirst r.ea w v m.2.bus ∧
    (∀ c, c ∉ cellsHighFirst r.ea w v m.2.bus → t.bus.cellByte c = s.bus.cellByte c) ∧ Frame s t

/-- A read-modify-write on the accumulator where that is the operand, else on memory (R198). -/
def Modifies (i : Instr) (s : State) (f : Nat → Nat) (g : Nat → Nat → Status) : Prop :=
  let w := s.cpu.mw
  match i.operand with
  | .accumulator =>
    let v := f (low w s.cpu.a) % size w
    RegistersOnly i s { s.cpu with a := writtenA w s.cpu.a v, p := g (low w s.cpu.a) v }
  | _ => ModifiesMemory i s w f g

/-! ## The stack -/

/-- S after a push (R340): within page 1 in emulation mode unless the instruction is free of the wrap. -/
def down (e nw : Bool) (sp : Nat) : Nat := if e && !nw then 256 + (sp + 255) % 256 else (sp + 65535) % 65536

/-- S after a pull's increment (R341). -/
def up (e nw : Bool) (sp : Nat) : Nat := if e && !nw then 256 + (sp + 1) % 256 else (sp + 1) % 65536

/-- S at the end of the instruction (R340, R42). -/
def settle (e nw : Bool) (sp : Nat) : Word := BitVec.ofNat 16 (if e && nw then 256 + sp % 256 else sp)

/-- The bus and S after pushing bytes, the first one first. -/
def pushAll (e nw : Bool) : List Nat → Bus → Nat → Bus × Nat
  | [], b, sp => (b, sp)
  | v :: vs, b, sp => pushAll e nw vs (b.write (BitVec.ofNat 24 sp) (BitVec.ofNat 8 v)) (down e nw sp)

/-- The cells those pushes store to. -/
def pushCells (e nw : Bool) : List Nat → Bus → Nat → List CellId
  | [], _, _ => []
  | v :: vs, b, sp =>
    (b.storeCell (BitVec.ofNat 24 sp)).toList ++
      pushCells e nw vs (b.write (BitVec.ofNat 24 sp) (BitVec.ofNat 8 v)) (down e nw sp)

/-- The numbers of the bytes pulled, the bus and S after pulling `n` bytes. -/
def pullAll (readable e nw : Bool) : Nat → Bus → Nat → List Nat × Bus × Nat
  | 0, b, sp => ([], b, sp)
  | n + 1, b, sp =>
    let r := b.read readable false (BitVec.ofNat 24 (up e nw sp))
    let k := pullAll readable e nw n r.2 (up e nw sp)
    (r.1.toNat :: k.1, k.2)

/-- The bytes of a number of a width as they are pushed: the high byte first (R342). -/
def pushBytes (w : Width) (v : Nat) : List Nat :=
  match w with
  | .w8 => [v % 256]
  | .w16 => [v / 256, v % 256]

/-- The number of bytes pulled low byte first (R342). -/
def pulledNumber (l : List Nat) : Nat := l.getD 0 0 + 256 * l.getD 1 0

/-- The instruction pushes bytes and ends with the registers `c`, S as the pushes leave it; `b` is the bus before the pushes. -/
def Pushes (i : Instr) (s : State) (b : Bus) (bytes : List Nat) (c : Cpu) : Prop :=
  let nw := s.params.noWrap.contains i.opcode
  let p := pushAll s.cpu.p.e nw bytes b s.cpu.s.toNat
  ∃ t, exec i s = .next t ∧ t.cpu = { c with s := settle s.cpu.p.e nw p.2 } ∧ t.bus = p.1 ∧
    (∀ k, k ∉ pushCells s.cpu.p.e nw bytes b s.cpu.s.toNat → t.bus.cellByte k = s.bus.cellByte k) ∧ Frame s t

/-- The instruction pulls `n` bytes and ends with the registers that `regs` gives for them, S as the pulls leave it; no memory
changes. -/
def Pulls (i : Instr) (s : State) (n : Nat) (regs : List Nat → Cpu) (frame : State → State → Prop) : Prop :=
  let nw := s.params.noWrap.contains i.opcode
  let p := pullAll s.params.wmaddReadable s.cpu.p.e nw n s.bus s.cpu.s.toNat
  ∃ t, exec i s = .next t ∧ t.cpu = { regs p.1 with s := settle s.cpu.p.e nw p.2.2 } ∧ t.bus = p.2.1 ∧ MemoryKept s t ∧ frame s t

/-- The frame of the six instructions after which I may be a draw (R418): as `Frame`, and I from before is remembered. -/
def MarkedFrame (s t : State) : Prop :=
  t.iBefore = some s.cpu.p.i ∧ Frame s { t with iBefore := s.iBefore }

/-- The status after pulling a byte: all eight flags from it, M and X held at 1 in emulation mode (R353). -/
def pulledStatus (p : Status) (v : Nat) : Status where
  n := v.testBit 7
  v := v.testBit 6
  m := v.testBit 5 || p.e
  x := v.testBit 4 || p.e
  d := v.testBit 3
  i := v.testBit 2
  z := v.testBit 1
  c := v.testBit 0
  e := p.e

/-- An index register under the index-width invariant: its high byte is 0 where the X flag is 1 (R43). -/
def indexUnder (x : Bool) (v : Word) : Word := BitVec.ofNat 16 (if x then v.toNat % 256 else v.toNat)

/-! ## Exceptions -/

/-- A 16-bit word read from two addresses in order, and the bus after it. -/
def wordRead (readable : Bool) (lo hi : Nat) (b : Bus) : Nat × Bus :=
  let l := b.read readable false (BitVec.ofNat 24 lo)
  let h := l.2.read readable false (BitVec.ofNat 24 hi)
  (l.1.toNat + 256 * h.1.toNat, h.2)

/-- The frame an entry pushes: PB in native mode, the return offset high byte first, the status image (R420). -/
def entryBytes (s : State) (ret image : Nat) : List Nat :=
  (if s.cpu.p.e then [] else [s.cpu.pb.toNat]) ++ [ret / 256 % 256, ret % 256, image]

/-- `t` is `s` after the entry sequence: the frame pushed, I set, D cleared, bank 0 at the word of the vector; nothing else of the
registers, the memories and the latches changed. -/
def Entered (s t : State) (nw : Bool) (ret image vector : Nat) : Prop :=
  let p := pushAll s.cpu.p.e nw (entryBytes s ret image) s.bus s.cpu.s.toNat
  let v := wordRead s.params.wmaddReadable vector (vector + 1) p.1
  t.cpu = { s.cpu with
    s := settle s.cpu.p.e nw p.2, pb := 0, pc := BitVec.ofNat 16 v.1, p := { s.cpu.p with i := true, d := false } } ∧
  t.bus = v.2 ∧
  (∀ k, k ∉ pushCells s.cpu.p.e nw (entryBytes s ret image) s.bus s.cpu.s.toNat → t.bus.cellByte k = s.bus.cellByte k) ∧
  Frame s t

/-- The inputs of the next boundary. -/
def line (s : State) : BoundaryInput := s.inputs.headD {}

/-- The state in which the boundary is decided: the inputs taken, the external agent done (R77). -/
def atBoundary (s : State) : State := State.agentStep (line s) { s with inputs := s.inputs.tail }

/-- An NMI is pending at the boundary: already, or by a rising edge (R412). -/
def nmiRequested (s : State) : Bool := s.nmiPending || (!s.nmiPrev && (line s).nmi)

/-- `Ieff` (R418): P.I, or right after one of the six instructions a draw of the old and the new value. -/
def maskInForce (s : State) : Bool :=
  match s.iBefore with
  | none => s.cpu.p.i
  | some old => if Config.maskDraw s.draws then old else s.cpu.p.i

/-- The count of draws after that: one more where the two values differ. -/
def drawsAfterMask (s : State) : Nat :=
  match s.iBefore with
  | none => s.draws
  | some old => if old = s.cpu.p.i then s.draws else s.draws + 1

/-- The state an entry or an instruction of the boundary starts from, NMI latched. -/
def latched (s : State) : State :=
  { atBoundary s with nmiPending := nmiRequested s, nmiPrev := (line s).nmi, run := .running, iBefore := none }

/-- The boundary is an ordinary one: the machine runs, no reset and no IRQ is asserted, and no NMI is requested (R417); an NMI line
that stays asserted is no request (R412). -/
def Quiet (s : State) : Prop :=
  s.bus.cart.isSome = true ∧ s.run = .running ∧ (line s).reset = false ∧ (line s).irq = false ∧ nmiRequested s = false

/-! ## Effective addresses -/

/-- A mode resolves to an address, a wrap kind and a state. -/
def ResolvesTo (o : Operand) (s : State) (a : Nat) (w : Wrap) (t : State) : Prop :=
  (resolve o s).ea.addr.toNat = a ∧ (resolve o s).ea.wrap = w ∧ (resolve o s).st = t

/-- The offset of `DPAddr(k, legacy)` in bank 0 (R175). -/
def directOffset (c : Cpu) (k : Nat) (legacy : Bool) : Nat :=
  if legacy = true ∧ c.p.e = true ∧ c.d.toNat % 256 = 0 then c.d.toNat / 256 * 256 + k % 256 else (c.d.toNat + k) % 65536

/-- A byte read by the CPU at an address. -/
def byteAt (a : Nat) (s : State) : Nat × State :=
  let r := s.read8 (BitVec.ofNat 24 a)
  (r.1.toNat, r.2)

/-- A 16-bit pointer from two addresses, low byte first. -/
def pointer16 (a0 a1 : Nat) (s : State) : Nat × State :=
  let l := byteAt a0 s
  let h := byteAt a1 l.2
  (l.1 + 256 * h.1, h.2)

/-- A 24-bit pointer from three addresses, low byte first. -/
def pointer24 (a0 a1 a2 : Nat) (s : State) : Nat × State :=
  let l := pointer16 a0 a1 s
  let h := byteAt a2 l.2
  (l.1 + 65536 * h.1, h.2)

/-- The wrap of data-bank addresses (R172). -/
def dataWrap (p : Params) : Wrap := if p.indexBankCarry then .linear else .inBank

/-- A data-bank address plus an index (R180, R185): with the carry into the bank, or within the bank. -/
def indexedAddress (p : Params) (db base index : Nat) : Nat :=
  if p.indexBankCarry then (db * 65536 + base + index) % 2 ^ 24 else db * 65536 + (base + index) % 65536

/-- The address after an effective address (R170). -/
def nextAddress (ea : EA) : Nat :=
  match ea.wrap with
  | .linear => (ea.addr.toNat + 1) % 2 ^ 24
  | .inBank => ea.addr.toNat / 65536 * 65536 + (ea.addr.toNat + 1) % 65536

/-! ## Decimal numbers -/

/-- Nibble `k` of a number. -/
def nibble (v k : Nat) : Nat := v / 16 ^ k % 16

/-- Every nibble of a number of a width is at most 9. -/
def IsBcd (w : Width) (v : Nat) : Prop := ∀ k, k < 2 * w.bytes → nibble v k ≤ 9

/-- The decimal number the nibbles of a number of a width spell. -/
def decimalValue (w : Width) (v : Nat) : Nat :=
  match w with
  | .w8 => nibble v 0 + 10 * nibble v 1
  | .w16 => nibble v 0 + 10 * nibble v 1 + 100 * nibble v 2 + 1000 * nibble v 3

/-- How many decimal numbers a width spells. -/
def decimalSize (w : Width) : Nat := 10 ^ (2 * w.bytes)

/-- The nibbles that spell a decimal number. -/
def decimalDigits (w : Width) (v : Nat) : Nat :=
  match w with
  | .w8 => v % 10 + 16 * (v / 10 % 10)
  | .w16 => v % 10 + 16 * (v / 10 % 10) + 256 * (v / 100 % 10) + 4096 * (v / 1000 % 10)

/-- How many decimal numbers the digits below the top one spell. -/
def lowerDigits (w : Width) : Nat := 10 ^ (2 * w.bytes - 1)

/-- The top nibble of a number of a width read as a four-bit two's complement number. -/
def signedTop (w : Width) (v : Nat) : Int :=
  let d := nibble v (2 * w.bytes - 1)
  if 8 ≤ d then (d : Int) - 16 else d

/-- A sum of top digits does not fit four bits. -/
def topDigitOverflows (t : Int) : Bool := decide (t < -8 ∨ 8 ≤ t)

/-! ## The nibble algorithm of R250 and R251, on any numbers -/

/-- The carry into digit `k`: a digit of a sum carries from 10 on, one of a difference (a sum with the complement) from 16 on. -/
def carryInto (sub : Bool) (a b c : Nat) : Nat → Nat
  | 0 => c
  | k + 1 => if (if sub then 16 else 10) ≤ nibble a k + nibble b k + carryInto sub a b c k then 1 else 0

/-- Digit `k` of the result: a sum of 10 or more is adjusted by 6, a difference that borrows by -6. -/
def adjustedDigit (sub : Bool) (a b c k : Nat) : Nat :=
  let d := nibble a k + nibble b k + carryInto sub a b c k
  (if sub then (if 16 ≤ d then d else d + 10) else (if 10 ≤ d then d + 6 else d)) % 16

/-- The number the digits of a width spell. -/
def adjustedSum (sub : Bool) (w : Width) (a b c : Nat) : Nat :=
  ((List.range (2 * w.bytes)).map fun k => adjustedDigit sub a b c k * 16 ^ k).sum

/-- The signed overflow of the top digits, before their adjustment. -/
def adjustedOverflow (sub : Bool) (w : Width) (a b c : Nat) : Bool :=
  topDigitOverflows (signedTop w a + signedTop w b + carryInto sub a b c (2 * w.bytes - 1))

/-! ## Lists of mnemonics -/

/-- The mnemonics of the pushes and pulls. -/
def pushMnemonics : List Mnemonic := [.pha, .phx, .phy, .php, .phb, .phd, .phk, .pea, .pei, .per]
def pullMnemonics : List Mnemonic := [.pla, .plx, .ply, .plp, .plb, .pld]

/-- The mnemonics that write P whole, all eight flags or those of a mask. -/
def statusMnemonics : List Mnemonic := [.rep, .sep, .plp, .rti]

/-- The mnemonics that read, modify and write. -/
def modifyMnemonics : List Mnemonic := [.inc, .dec, .asl, .lsr, .rol, .ror]

/-- The mnemonics of a result in a register, a pull or a load: they write N and Z. -/
def resultMnemonics : List Mnemonic :=
  [.lda, .ldx, .ldy, .tax, .tay, .txa, .tya, .txy, .tyx, .tsx, .tsc, .tcd, .tdc, .xba, .pla, .plx, .ply, .plb, .pld,
   .adc, .sbc, .cmp, .cpx, .cpy, .and, .ora, .eor, .inx, .iny, .dex, .dey]

/-! ## Who writes what -/

/-- The mnemonics that write C (R33). -/
def carryWriters : List Mnemonic :=
  statusMnemonics ++ ([.adc, .sbc, .cmp, .cpx, .cpy, .asl, .lsr, .rol, .ror, .clc, .sec, .xce] : List Mnemonic)

/-- The mnemonics that write Z (R34). -/
def zeroWriters : List Mnemonic :=
  statusMnemonics ++ modifyMnemonics ++ resultMnemonics ++ ([.bit, .tsb, .trb] : List Mnemonic)

/-- The mnemonics that write N (R39; R269 and R270 leave it out for TSB and TRB, log 19). -/
def negativeWriters : List Mnemonic :=
  statusMnemonics ++ modifyMnemonics ++ resultMnemonics ++ ([.bit] : List Mnemonic)

/-- The mnemonics that write V (R39). -/
def overflowWriters : List Mnemonic :=
  statusMnemonics ++ ([.adc, .sbc, .bit, .clv] : List Mnemonic)

/-- The mnemonics that write I (R35). -/
def maskWriters : List Mnemonic :=
  statusMnemonics ++ ([.cli, .sei, .brk, .cop] : List Mnemonic)

/-- The mnemonics that write D (R36). -/
def decimalWriters : List Mnemonic :=
  statusMnemonics ++ ([.cld, .sed, .brk, .cop] : List Mnemonic)

/-- The mnemonics that write M and X (R37, R38). -/
def widthWriters : List Mnemonic :=
  statusMnemonics ++ ([.xce] : List Mnemonic)

/-- The mnemonics that write A (R21). -/
def accumulatorWriters : List Mnemonic :=
  modifyMnemonics ++ ([.lda, .txa, .tya, .tsc, .tdc, .xba, .adc, .sbc, .and, .ora, .eor, .pla, .mvn, .mvp] : List Mnemonic)

/-- The mnemonics that write S (R25). -/
def stackWriters : List Mnemonic :=
  pushMnemonics ++ pullMnemonics ++ ([.txs, .tcs, .jsr, .jsl, .rts, .rtl, .brk, .cop, .rti, .xce] : List Mnemonic)

/-- The mnemonics that store into memory. -/
def memoryWriters : List Mnemonic :=
  pushMnemonics ++ modifyMnemonics ++ ([.sta, .stx, .sty, .stz, .tsb, .trb, .jsr, .jsl, .brk, .cop, .mvn, .mvp] : List Mnemonic)

/-! ## Branches and cycles -/

/-- The condition of a branch; false of any other instruction. -/
def branchCondition (i : Instr) (p : Status) : Bool :=
  match i with
  | .bcc _ => !p.c
  | .bcs _ => p.c
  | .beq _ => p.z
  | .bne _ => !p.z
  | .bmi _ => p.n
  | .bpl _ => !p.n
  | .bvc _ => !p.v
  | .bvs _ => p.v
  | .bra _ => true
  | _ => false

/-- The cycles an option adds: `n` where it is in the set and its condition holds (R150). -/
def optionCycles (opts : List CycleOption) (o : CycleOption) (n : Nat) (cond : Prop) [Decidable cond] : Nat :=
  if o ∈ opts ∧ cond then n else 0

end Sys2Proof.Claims

open Sys2Proof Sys2Proof.Machine Sys2Proof.Claims

/-! ## Encoding (spec/30_encoding.md) -/

/-- Decoding the bytes of a well-formed instruction, whatever follows them, gives it back (R130, R133, R136, R137, R156). -/
def Obligations.DecodeOfEncode : Prop :=
  ∀ (w : Widths) (i : Instr) (rest : List Byte), i.wellFormed w = true → decode w (encode i ++ rest) = .ok (i, rest)

/-- Every opcode byte followed by its operand bytes decodes to a well-formed instruction of that opcode, which encodes to those
bytes: no byte is refused (R140). Of all the lengths, those of twelve opcodes depend on the width state: eight on is16M, four on is16X
(R138). -/
def Obligations.ByteSelectsInstruction : Prop :=
  (∀ (w : Widths) (b : Byte) (operand : List Byte), operand.length = operandBytes w b →
     ∃ i, decode w (b :: operand) = .ok (i, []) ∧ i.opcode = b ∧ i.wellFormed w = true ∧ encode i = b :: operand) ∧
  (∀ (w : Widths) (b : Byte),
     totalFetchBytes w b =
       if b ∈ ([0x09, 0x29, 0x49, 0x69, 0x89, 0xA9, 0xC9, 0xE9] : List Byte) then (if w.m16 then 3 else 2)
       else if b ∈ ([0xA0, 0xA2, 0xC0, 0xE0] : List Byte) then (if w.x16 then 3 else 2)
       else totalFetchBytes ⟨false, false⟩ b)

/-- Words written out from the records of R156 decode to the instructions they stand for. -/
def Obligations.SpecWordsDecode : Prop :=
  decode ⟨false, false⟩ [0xA9, 0x80] = .ok (.ldaImm (.byte 0x80), []) ∧
  decode ⟨true, true⟩ [0xA2, 0xFF, 0x1F] = .ok (.ldxImm (.word 0x1FFF), []) ∧
  decode ⟨false, false⟩ [0x8D, 0x00, 0x20] = .ok (.staAbs 0x2000, []) ∧
  decode ⟨false, false⟩ [0x5C, 0x00, 0x80, 0xC0] = .ok (.jmlLong 0xC08000, []) ∧
  decode ⟨false, false⟩ [0x54, 0x7E, 0x7F] = .ok (.mvn 0x7E 0x7F, []) ∧
  decode ⟨false, false⟩ [0x00, 0xEA] = .ok (.brk 0xEA, [])

/-! ## The bus (spec/20_memory.md) -/

/-- The address decoder (R68, R69). -/
def Obligations.AddressDecoder : Prop :=
  ∀ a : Addr,
    let b := a.toNat / 65536
    let o := a.toNat % 65536
    getTarget a =
      if b < 0x40 ∨ (0x80 ≤ b ∧ b < 0xC0) then
        if o < 0x2000 then .wramA
        else if o < 0x2100 then .unmapped
        else if o < 0x2140 then .ext .ppu
        else if o < 0x2180 then .ext .apu
        else if o < 0x2184 then .wramPort
        else if o < 0x2200 then .ext .expansion
        else if o < 0x4000 then .cart
        else if o < 0x4300 then .ext .onChipIo
        else if o < 0x6000 then .ext .dma
        else .cart
      else if b = 0x7E ∨ b = 0x7F then .wramA
      else .cart

/-- A buffered read of 1 to 4 bytes (R63, R70): where a device services it, the device's bytes, the last of them in the latch; where
none does, the latch in every byte of the buffer, and the latch as it was. A write never moves the latch. -/
def Obligations.OpenBusLatch : Prop :=
  ∀ (r nd : Bool) (a : Addr) (n : Nat) (b : Bus), 0 < n → n ≤ 4 →
    (∀ l d, b.deviceReadN r nd a n = .next (some l, d) →
      mmuRead r nd a n b = .next (true, l, { d with latch := l.getLastD b.latch })) ∧
    (∀ d, b.deviceReadN r nd a n = .next (none, d) →
      mmuRead r nd a n b = .next (false, List.replicate n b.latch, d) ∧ d.latch = b.latch) ∧
    (∀ buf ok d, mmuWrite a buf b = .next (ok, d) → d.latch = b.latch)

/-- The CPU's one-byte accesses are the buffered accesses of length one (R64, R65, R70, R71): nothing is lost by the shorter form. The
host's debug peek answers the bytes of a nondestructive read; that it changes no state, the latch included, is the model's choice
between R475 and R70 (log 24). -/
def Obligations.OneByteBuffersAgree : Prop :=
  (∀ (r nd : Bool) (a : Addr) (v : Byte) (b : Bus),
     (∃ ok, mmuRead r nd a 1 b = .next (ok, [(b.read r nd a).1], (b.read r nd a).2)) ∧
     (∃ ok, mmuWrite a [v] b = .next (ok, b.write a v))) ∧
  (∀ (a : Addr) (s : State), ∃ ok, s.debugPeek a 1 = .next (ok, [(s.bus.read s.params.wmaddReadable true a).1]))

/-- No one-byte read changes a memory byte or the cartridge, and only a destructive read of WMDATA moves WmAddr (R116). -/
def Obligations.ReadSideEffects : Prop :=
  ∀ (r nd : Bool) (a : Addr) (b : Bus),
    let d := (b.read r nd a).2
    (∀ c : CellId, d.cellByte c = b.cellByte c) ∧ d.cart = b.cart ∧ d.latch = (b.read r nd a).1 ∧
    d.wmAddr =
      if getTarget a = .wramPort ∧ a.toNat % 65536 = 0x2180 ∧ nd = false then BitVec.ofNat 17 (b.wmAddr.toNat + 1) else b.wmAddr

/-- A one-byte write in canonical memories stores the byte in the cell the address reaches, and changes no other byte: in
particular none of ROM. -/
def Obligations.WriteStoresOneCell : Prop :=
  ∀ (a : Addr) (v : Byte) (b : Bus), b.wf = true →
    (b.write a v).wf = true ∧ (b.write a v).cart = b.cart ∧
    (∀ c, b.storeCell a = some c → (b.write a v).cellByte c = v ∧ c.1 ≠ .rom) ∧
    (∀ c, b.storeCell a ≠ some c → (b.write a v).cellByte c = b.cellByte c)

/-- WRAM over Bus A (R80, R81): the mirror in the low offsets, the linear map in banks 7E and 7F, no other bank, no latch, and a
fault past the last byte; the MMU sends no other bank here. -/
def Obligations.WorkRamBusA : Prop :=
  ∀ (a : Addr) (n : Nat) (buf : List Byte) (b : Bus), 0 < n → buf ≠ [] →
    let bank := a.toNat / 65536
    let here := if bank = 0x7E ∨ bank = 0x7F then a.toNat % 0x20000 else a.toNat % 0x2000
    let inWorkRam := bank < 0x40 ∨ (0x80 ≤ bank ∧ bank < 0xC0) ∨ bank = 0x7E ∨ bank = 0x7F
    (getTarget a = .wramA → inWorkRam) ∧
    if inWorkRam then
      (workRamReadA a n b =
        if 0x20000 < here + n then .fault .outOfRange
        else .next (some ((List.range n).map fun k => b.cellByte (.wram, here + k)), b)) ∧
      (0x20000 < here + buf.length → workRamWriteA a buf b = .fault .outOfRange) ∧
      (here + buf.length ≤ 0x20000 → b.wf = true → ∃ d, workRamWriteA a buf b = .next (true, d) ∧ d.wmAddr = b.wmAddr ∧
        (∀ k, k < buf.length → d.cellByte (.wram, here + k) = buf.getD k 0) ∧
        (∀ c, (∀ k, k < buf.length → c ≠ (.wram, here + k)) → d.cellByte c = b.cellByte c))
    else workRamReadA a n b = .fault .outOfRange ∧ workRamWriteA a buf b = .fault .outOfRange

/-- The Bus B ports. WMDATA (R83, R84, R85): a read answers the byte at WmAddr, a write stores there, and each then adds one to
WmAddr modulo 2^17, but for a nondestructive read. The latch ports (R86, R87): a write replaces one byte of WmAddr, the highest by its
bit 0; a read answers one byte where WMADD_READABLE is true, and is not serviced where it is false. -/
def Obligations.WorkRamBusB : Prop :=
  (∀ (r nd : Bool) (v : Byte) (b : Bus), b.wf = true →
     workRamReadB r nd 0x2180 1 b =
       .next (some [b.cellByte (.wram, b.wmAddr.toNat)],
         if nd then b else { b with wmAddr := BitVec.ofNat 17 ((b.wmAddr.toNat + 1) % 0x20000) }) ∧
     ∃ d, workRamWriteB 0x2180 [v] b = .next (true, d) ∧ d.wmAddr = BitVec.ofNat 17 ((b.wmAddr.toNat + 1) % 0x20000) ∧
       d.cellByte (.wram, b.wmAddr.toNat) = v ∧ (∀ c, c ≠ (.wram, b.wmAddr.toNat) → d.cellByte c = b.cellByte c)) ∧
  (∀ (nd : Bool) (v : Byte) (b : Bus),
     let m := b.wmAddr.toNat
     workRamWriteB 0x2181 [v] b = .next (true, { b with wmAddr := BitVec.ofNat 17 (m / 256 * 256 + v.toNat) }) ∧
     workRamWriteB 0x2182 [v] b =
       .next (true, { b with wmAddr := BitVec.ofNat 17 (m / 65536 * 65536 + v.toNat * 256 + m % 256) }) ∧
     workRamWriteB 0x2183 [v] b = .next (true, { b with wmAddr := BitVec.ofNat 17 (v.toNat % 2 * 65536 + m % 65536) }) ∧
     workRamReadB true nd 0x2181 1 b = .next (some [BitVec.ofNat 8 (m % 256)], b) ∧
     workRamReadB true nd 0x2182 1 b = .next (some [BitVec.ofNat 8 (m / 256 % 256)], b) ∧
     workRamReadB true nd 0x2183 1 b = .next (some [BitVec.ofNat 8 (m / 65536)], b) ∧
     (∀ port : Word, 0x2181 ≤ port.toNat → port.toNat ≤ 0x2183 → workRamReadB false nd port 1 b = .next (none, b)))

/-- Where the device contract stops (R72, R82, R88): an empty buffer in every call, a Bus B port outside the four, more than one byte on
Bus B, more than 4 bytes through the MMU. That an empty buffer is tested first and the port before the length is the model's choice
(log 21), and so is the refusal of more than 4 bytes (log 22). -/
def Obligations.DeviceContractStops : Prop :=
  ∀ (r nd : Bool) (a : Addr) (port : Word) (n : Nat) (buf : List Byte) (b : Bus),
    mmuRead r nd a 0 b = .fault .emptyBuffer ∧ mmuWrite a [] b = .fault .emptyBuffer ∧
    b.deviceReadN r nd a 0 = .fault .emptyBuffer ∧ b.deviceWriteN a [] = .fault .emptyBuffer ∧
    workRamReadA a 0 b = .fault .emptyBuffer ∧ workRamWriteA a [] b = .fault .emptyBuffer ∧
    workRamReadB r nd port 0 b = .fault .emptyBuffer ∧ workRamWriteB port [] b = .fault .emptyBuffer ∧
    (port.toNat < 0x2180 ∨ 0x2183 < port.toNat →
      (0 < n → workRamReadB r nd port n b = .fault .outOfRange) ∧ (buf ≠ [] → workRamWriteB port buf b = .fault .outOfRange)) ∧
    (0x2180 ≤ port.toNat → port.toNat ≤ 0x2183 →
      (1 < n → workRamReadB r nd port n b = .refused .multiBytePortAccess) ∧
      (1 < buf.length → workRamWriteB port buf b = .refused .multiBytePortAccess)) ∧
    (4 < n → mmuRead r nd a n b = .refused .bufferTooLong) ∧ (4 < buf.length → mmuWrite a buf b = .refused .bufferTooLong)

/-- The LoROM (R101 to R107) and the HiROM (R108 to R111) translation of the addresses the MMU sends to the cartridge. -/
def Obligations.BankTranslation : Prop :=
  (∀ a : Addr, getTarget a = .cart →
     let b := a.toNat / 65536
     let o := a.toNat % 65536
     convertToLocalAddr true a =
       if b < 0x40 ∨ (0x80 ≤ b ∧ b < 0xC0) then
         if o < 0x8000 then (.unmapped, 0) else (.rom, b % 64 * 0x8000 + (o - 0x8000))
       else if b < 0x70 ∨ (0xC0 ≤ b ∧ b < 0xF0) then (.rom, 0x200000 + b % 64 * 0x8000 + o)
       else if b < 0x7E then if o < 0x8000 then (.mode20Sram1, (b - 0x70) * 0x8000 + o)
         else (.rom, 0x380000 + (b - 0x70) * 0x8000 + (o - 0x8000))
       else if b < 0xFE then if o < 0x8000 then (.mode20Sram1, (b - 0xF0) * 0x8000 + o)
         else (.rom, 0x380000 + (b - 0xF0) * 0x8000 + (o - 0x8000))
       else if o < 0x8000 then (.mode20Sram2, (b - 0xFE) * 0x8000 + o)
       else (.rom, 0x3F0000 + (b - 0xFE) * 0x8000 + (o - 0x8000))) ∧
  (∀ a : Addr, getTarget a = .cart →
     let b := a.toNat / 65536
     let o := a.toNat % 65536
     convertToLocalAddr false a =
       if b < 0x40 ∨ (0x80 ≤ b ∧ b < 0xC0) then
         if 0x8000 ≤ o then (.rom, b % 64 * 0x10000 + o)
         else if 32 ≤ b % 64 ∧ 0x6000 ≤ o then (.mode21Sram, b % 32 * 0x2000 + (o - 0x6000))
         else (.unmapped, 0)
       else (.rom, b % 64 * 0x10000 + o))

/-- What a cartridge access does (R112, R113): ROM answers below its length and is never written, SRAM answers and stores, the rest
is not serviced. -/
def Obligations.CartridgeAccess : Prop :=
  ∀ (a : Addr) (v : Byte) (r nd : Bool) (b : Bus) (cart : Cartridge), getTarget a = .cart → b.cart = some cart → b.wf = true →
    match convertToLocalAddr cart.isLoRom a with
    | (.rom, l) =>
      (b.read r nd a).1 = (if l < cart.romLen then cart.rom.read l else b.latch) ∧ b.deviceWrite a v = (false, b)
    | (.mode20Sram1, l) => (b.read r nd a).1 = b.sram1.read l ∧ l < 0x70000 ∧
      (b.deviceWrite a v).1 = true ∧ (b.write a v).sram1.read l = v
    | (.mode20Sram2, l) => (b.read r nd a).1 = b.sram2.read l ∧ l < 0x10000 ∧
      (b.deviceWrite a v).1 = true ∧ (b.write a v).sram2.read l = v
    | (.mode21Sram, l) => (b.read r nd a).1 = b.sramH.read l ∧ l < 0x40000 ∧
      (b.deviceWrite a v).1 = true ∧ (b.write a v).sramH.read l = v
    | (.unmapped, _) => (b.read r nd a).1 = b.latch ∧ b.deviceWrite a v = (false, b)

/-- Autodetection (R90, R91, R92): the four hypotheses in order, the first whose checksum is the complement of its complement wins,
and none is FormatError; the cartridge holds the file after the copier header, and the two blocks. -/
def Obligations.Autodetection : Prop :=
  ∀ img : RomImage,
    let starts : List (Bool × Bool × Nat) :=
      [(false, false, 0xFFB0), (true, false, 0x7FB0), (false, true, 0x101B0), (true, true, 0x81B0)]
    let accepts : Bool × Bool × Nat → Prop := fun h =>
      h.2.2 + 0x50 ≤ img.size ∧ (img.u16 (h.2.2 + 0x2E)).toNat + (img.u16 (h.2.2 + 0x2C)).toNat = 0xFFFF
    (constructCartridge img = none ↔ ∀ h ∈ starts, ¬ accepts h) ∧
    (∀ cart, constructCartridge img = some cart →
      ∃ pre h post, starts = pre ++ h :: post ∧ (∀ k ∈ pre, ¬ accepts k) ∧ accepts h ∧
        cart.isLoRom = h.1 ∧ cart.hasHeaderOffset = h.2.1 ∧
        cart.romLen = img.size - (if h.2.1 then 512 else 0) ∧
        (∀ n, n < cart.romLen → cart.rom.read n = img.at (n + if h.2.1 then 512 else 0)) ∧
        cart.regHeader = (List.range 0x30).map (fun k => img.at (h.2.2 + k)) ∧
        cart.vectors = (List.range 0x20).map (fun k => img.at (h.2.2 + 0x30 + k)))

/-- The vectors the CPU reads in bank 0 are the bytes of the cartridge's vector block, under both mappings (R95, R461). -/
def Obligations.VectorsOnTheBus : Prop :=
  ∀ (img : RomImage) (cart : Cartridge), constructCartridge img = some cart → ∀ k, k < 0x20 →
    ∃ l, cart.cell (BitVec.ofNat 24 (0xFFE0 + k)) = some (.rom, l) ∧ cart.rom.read l = cart.vectors.getD k 0

/-! ## Effective addresses (spec/40_addressing.md) -/

/-- The direct modes: without a pointer (R175 to R178), with a 16-bit pointer (R179, R180, R181), and with a 24-bit pointer, which
has no page wrap (R182, R183). -/
def Obligations.DirectPageModes : Prop :=
  (∀ (dp : Byte) (s : State),
     ResolvesTo (.direct dp) s ((s.cpu.d.toNat + dp.toNat) % 65536) .inBank s ∧
     ResolvesTo (.directX dp) s (directOffset s.cpu (dp.toNat + s.cpu.x.toNat) true) .inBank s ∧
     ResolvesTo (.directY dp) s (directOffset s.cpu (dp.toNat + s.cpu.y.toNat) true) .inBank s) ∧
  (∀ (dp : Byte) (s : State),
     let c := s.cpu
     let p := pointer16 (directOffset c dp.toNat true) (directOffset c (dp.toNat + 1) true) s
     let q := pointer16 (directOffset c (dp.toNat + c.x.toNat) true) (directOffset c (dp.toNat + c.x.toNat + 1) true) s
     ResolvesTo (.directIndirect dp) s (c.db.toNat * 65536 + p.1) (dataWrap s.params) p.2 ∧
     ResolvesTo (.directIndirectY dp) s (indexedAddress s.params c.db.toNat p.1 c.y.toNat) (dataWrap s.params) p.2 ∧
     (resolve (.directIndirectY dp) s).base.toNat = c.db.toNat * 65536 + p.1 ∧
     ResolvesTo (.directXIndirect dp) s (c.db.toNat * 65536 + q.1) (dataWrap s.params) q.2) ∧
  (∀ (dp : Byte) (s : State),
     let at_ := fun k => directOffset s.cpu (dp.toNat + k) false
     let p := pointer24 (at_ 0) (at_ 1) (at_ 2) s
     ResolvesTo (.directIndirectLong dp) s p.1 .linear p.2 ∧
     ResolvesTo (.directIndirectLongY dp) s ((p.1 + s.cpu.y.toNat) % 2 ^ 24) .linear p.2)

/-- The absolute modes of data (R184 to R187), and the stack-relative modes, never limited to page 1 (R191, R192). -/
def Obligations.AbsoluteAndStackModes : Prop :=
  (∀ (a : Word) (l : Addr) (s : State),
     let c := s.cpu
     ResolvesTo (.absolute a) s (c.db.toNat * 65536 + a.toNat) (dataWrap s.params) s ∧
     ResolvesTo (.absoluteX a) s (indexedAddress s.params c.db.toNat a.toNat c.x.toNat) (dataWrap s.params) s ∧
     ResolvesTo (.absoluteY a) s (indexedAddress s.params c.db.toNat a.toNat c.y.toNat) (dataWrap s.params) s ∧
     (resolve (.absoluteX a) s).base.toNat = c.db.toNat * 65536 + a.toNat ∧
     (resolve (.absoluteY a) s).base.toNat = c.db.toNat * 65536 + a.toNat ∧
     ResolvesTo (.absoluteLong l) s l.toNat .linear s ∧
     ResolvesTo (.absoluteLongX l) s ((l.toNat + c.x.toNat) % 2 ^ 24) .linear s) ∧
  (∀ (sr : Byte) (s : State),
     let at_ := fun k => (s.cpu.s.toNat + sr.toNat + k) % 65536
     let p := pointer16 (at_ 0) (at_ 1) s
     ResolvesTo (.stackRelative sr) s (at_ 0) .inBank s ∧
     ResolvesTo (.stackRelativeIndirectY sr) s (indexedAddress s.params s.cpu.db.toNat p.1 s.cpu.y.toNat) (dataWrap s.params) p.2)

/-- Data accesses at an effective address (R171): loads and stores low byte first, the store of a read-modify-write high byte
first, the second byte at the next address of R170. The operand of a read (R197): the immediate itself, or the number at the effective
address, of the operation width. -/
def Obligations.OperandAccess : Prop :=
  (∀ (ea : EA) (v : Word) (s : State),
     let next : Addr := BitVec.ofNat 24 (nextAddress ea)
     let lo := BitVec.ofNat 8 v.toNat
     let hi := BitVec.ofNat 8 (v.toNat / 256)
     (s.readEA ea .w8).1.toNat = (s.read8 ea.addr).1.toNat ∧ (s.readEA ea .w8).2 = (s.read8 ea.addr).2 ∧
     (s.readEA ea .w16).1.toNat = (s.read8 ea.addr).1.toNat + 256 * ((s.read8 ea.addr).2.read8 next).1.toNat ∧
     (s.readEA ea .w16).2 = ((s.read8 ea.addr).2.read8 next).2 ∧
     s.writeEA ea .w8 v = s.write8 ea.addr lo ∧ s.writeEA ea .w16 v = (s.write8 ea.addr lo).write8 next hi ∧
     s.writeRMW ea .w8 v = s.write8 ea.addr lo ∧ s.writeRMW ea .w16 v = (s.write8 next hi).write8 ea.addr lo) ∧
  (∀ (o : Operand) (w : Width) (s : State),
     (readOperand o w s).value.toNat < size w ∧
     match o with
     | .immediate (.byte v) => (readOperand o w s).value.toNat = v.toNat ∧ (readOperand o w s).st = s
     | .immediate (.word v) => (readOperand o w s).value.toNat = v.toNat % size w ∧ (readOperand o w s).st = s
     | _ =>
       (readOperand o w s).value = ((resolve o s).st.readEA (resolve o s).ea w).1 ∧
       (readOperand o w s).st = ((resolve o s).st.readEA (resolve o s).ea w).2)

/-! ## Loads, stores, transfers (spec/41_load_store_transfer.md) -/

/-- LDA, LDX and LDY in every form (R210, R211, R212). -/
def Obligations.Loads : Prop :=
  ∀ (i : Instr) (s : State),
    (i.mnemonic = .lda → ReadsOperand i s s.cpu.mw fun v =>
      { s.cpu with a := writtenA s.cpu.mw s.cpu.a v, p := withNZ s.cpu.p s.cpu.mw v }) ∧
    (i.mnemonic = .ldx → ReadsOperand i s s.cpu.xw fun v =>
      { s.cpu with x := BitVec.ofNat 16 v, p := withNZ s.cpu.p s.cpu.xw v }) ∧
    (i.mnemonic = .ldy → ReadsOperand i s s.cpu.xw fun v =>
      { s.cpu with y := BitVec.ofNat 16 v, p := withNZ s.cpu.p s.cpu.xw v })

/-- STA, STX, STY and STZ in every form (R213 to R216). -/
def Obligations.Stores : Prop :=
  ∀ (i : Instr) (s : State),
    (i.mnemonic = .sta → StoresAt i s s.cpu.mw (low s.cpu.mw s.cpu.a)) ∧
    (i.mnemonic = .stx → StoresAt i s s.cpu.xw (low s.cpu.xw s.cpu.x)) ∧
    (i.mnemonic = .sty → StoresAt i s s.cpu.xw (low s.cpu.xw s.cpu.y)) ∧
    (i.mnemonic = .stz → StoresAt i s s.cpu.mw 0)

/-- TAX, TAY, TXA, TYA, TXY, TYX and TSX (R217 to R223): the source's number of the destination's width. TXS, TCS, TSC, TCD, TDC and
XBA (R224 to R229): sixteen bits whatever M; S keeps its page in emulation mode; XBA's flags are those of the new low byte. -/
def Obligations.Transfers : Prop :=
  (∀ s : State,
     let c := s.cpu
     let mw := c.mw
     let xw := c.xw
     RegistersOnly .tax s { c with x := BitVec.ofNat 16 (low xw c.a), p := withNZ c.p xw (low xw c.a) } ∧
     RegistersOnly .tay s { c with y := BitVec.ofNat 16 (low xw c.a), p := withNZ c.p xw (low xw c.a) } ∧
     RegistersOnly .txa s { c with a := writtenA mw c.a (low mw c.x), p := withNZ c.p mw (low mw c.x) } ∧
     RegistersOnly .tya s { c with a := writtenA mw c.a (low mw c.y), p := withNZ c.p mw (low mw c.y) } ∧
     RegistersOnly .txy s { c with y := BitVec.ofNat 16 (low xw c.x), p := withNZ c.p xw (low xw c.x) } ∧
     RegistersOnly .tyx s { c with x := BitVec.ofNat 16 (low xw c.y), p := withNZ c.p xw (low xw c.y) } ∧
     RegistersOnly .tsx s { c with x := BitVec.ofNat 16 (low xw c.s), p := withNZ c.p xw (low xw c.s) }) ∧
  (∀ s : State,
     let c := s.cpu
     let page := fun v : Word => BitVec.ofNat 16 (if c.p.e then 256 + v.toNat % 256 else v.toNat)
     RegistersOnly .txs s { c with s := page c.x } ∧
     RegistersOnly .tcs s { c with s := page c.a } ∧
     RegistersOnly .tsc s { c with a := c.s, p := withNZ c.p .w16 c.s.toNat } ∧
     RegistersOnly .tcd s { c with d := c.a, p := withNZ c.p .w16 c.a.toNat } ∧
     RegistersOnly .tdc s { c with a := c.d, p := withNZ c.p .w16 c.d.toNat } ∧
     RegistersOnly .xba s
       { c with a := BitVec.ofNat 16 (c.a.toNat % 256 * 256 + c.a.toNat / 256), p := withNZ c.p .w8 (c.a.toNat / 256) })

/-! ## Arithmetic and logic (spec/42_arith_logic.md) -/

/-- Binary ADC and SBC in every form (R250, R251): the sum and the difference with the carry, V where the signed result does not
fit. -/
def Obligations.BinaryAddSubtract : Prop :=
  ∀ (i : Instr) (s : State), s.cpu.p.d = false →
    let w := s.cpu.mw
    let a := low w s.cpu.a
    let k := s.cpu.p.c.toNat
    let ends := fun (r : Nat) (c v : Bool) =>
      { s.cpu with a := writtenA w s.cpu.a r, p := { withNZ s.cpu.p w r with c := c, v := v } }
    (i.mnemonic = .adc → ReadsOperand i s w fun m =>
      ends ((a + m + k) % size w) (decide (size w ≤ a + m + k)) (overflows w (signed w a + signed w m + k))) ∧
    (i.mnemonic = .sbc → ReadsOperand i s w fun m =>
      ends ((a + (size w - 1 - m) + k) % size w) (decide (m + 1 ≤ a + k)) (overflows w (signed w a - signed w m - 1 + k)))

/-- Decimal ADC and SBC in every form (R250, R251). Of BCD operands, under either DECIMAL_NONBCD: the decimal sum and difference, C as carry
and not-borrow, and V as the signed overflow of the top digits, before their adjustment. Of any operands, under
DECIMAL_NONBCD = ALGORITHM: the digit by digit algorithm, SBC's on the complement of its operand. -/
def Obligations.DecimalAddSubtract : Prop :=
  (∀ (i : Instr) (s : State), s.cpu.p.d = true → s.params.decimalNonBcd = .algorithm →
    let w := s.cpu.mw
    let a := low w s.cpu.a
    let k := s.cpu.p.c.toNat
    let ends := fun (sub : Bool) (m : Nat) =>
      let r := adjustedSum sub w a m k
      { s.cpu with
        a := writtenA w s.cpu.a r
        p := { withNZ s.cpu.p w r with
          c := decide (carryInto sub a m k (2 * w.bytes) = 1), v := adjustedOverflow sub w a m k } }
    (i.mnemonic = .adc → ReadsOperand i s w fun m => ends false m) ∧
    (i.mnemonic = .sbc → ReadsOperand i s w fun m => ends true (size w - 1 - m))) ∧
  ∀ (i : Instr) (s : State), s.cpu.p.d = true →
    let w := s.cpu.mw
    let a := low w s.cpu.a
    let m := (readOperand i.operand w s).value.toNat
    let k := s.cpu.p.c.toNat
    let ends := fun (r : Nat) (c v : Bool) =>
      { s.cpu with a := writtenA w s.cpu.a r, p := { withNZ s.cpu.p w r with c := c, v := v } }
    IsBcd w a → IsBcd w m →
    (i.mnemonic = .adc → ReadsOperand i s w fun m =>
      ends (decimalDigits w ((decimalValue w a + decimalValue w m + k) % decimalSize w))
        (decide (decimalSize w ≤ decimalValue w a + decimalValue w m + k))
        (topDigitOverflows (signedTop w a + signedTop w m +
          if lowerDigits w ≤ decimalValue w a % lowerDigits w + decimalValue w m % lowerDigits w + k then 1 else 0))) ∧
    (i.mnemonic = .sbc → ReadsOperand i s w fun m =>
      ends (decimalDigits w ((decimalValue w a + decimalSize w - decimalValue w m - 1 + k) % decimalSize w))
        (decide (decimalValue w m + 1 ≤ decimalValue w a + k))
        (topDigitOverflows (signedTop w a - signedTop w m - 1 +
          if decimalValue w m % lowerDigits w + 1 ≤ decimalValue w a % lowerDigits w + k then 1 else 0)))

/-- Decimal ADC and SBC of operands that are not BCD under DECIMAL_NONBCD = DRAW (R250): result, carry and overflow are the free
value, N and Z follow the result, and one draw is counted: that N and Z
follow it is the model's choice (log 9). Holds for every value of the free value. -/
def Obligations.NonBcdDraw : Prop :=
  ∀ (i : Instr) (s : State), i.mnemonic = .adc ∨ i.mnemonic = .sbc → s.cpu.p.d = true → s.params.decimalNonBcd = .draw →
    let w := s.cpu.mw
    let o := readOperand i.operand w s
    ¬ (IsBcd w (low w s.cpu.a) ∧ IsBcd w o.value.toNat) →
    let f := Config.decimalDraw s.draws
    ∃ t, exec i s = .next t ∧
      t.cpu = advance i s { s.cpu with
        a := writtenA w s.cpu.a (low w f.1), p := { withNZ s.cpu.p w (low w f.1) with c := f.2.1, v := f.2.2 } } ∧
      t.bus = o.st.bus ∧ MemoryKept s t ∧ t.draws = s.draws + 1 ∧ Frame s { t with draws := s.draws }

/-- CMP, CPX and CPY in every form (R252, R253, R254): unsigned and binary. -/
def Obligations.Compares : Prop :=
  ∀ (i : Instr) (s : State),
    let ends := fun (w : Width) (a m : Nat) =>
      { s.cpu with p := { withNZ s.cpu.p w ((a + size w - m) % size w) with c := decide (m ≤ a) } }
    (i.mnemonic = .cmp → ReadsOperand i s s.cpu.mw (ends s.cpu.mw (low s.cpu.mw s.cpu.a))) ∧
    (i.mnemonic = .cpx → ReadsOperand i s s.cpu.xw (ends s.cpu.xw (low s.cpu.xw s.cpu.x))) ∧
    (i.mnemonic = .cpy → ReadsOperand i s s.cpu.xw (ends s.cpu.xw (low s.cpu.xw s.cpu.y)))

/-- AND, ORA and EOR in every form (R255, R256, R257). -/
def Obligations.Logic : Prop :=
  ∀ (i : Instr) (s : State),
    let w := s.cpu.mw
    let a := low w s.cpu.a
    let ends := fun r : Nat => { s.cpu with a := writtenA w s.cpu.a r, p := withNZ s.cpu.p w r }
    (i.mnemonic = .and → ReadsOperand i s w fun m => ends (a &&& m)) ∧
    (i.mnemonic = .ora → ReadsOperand i s w fun m => ends (a ||| m)) ∧
    (i.mnemonic = .eor → ReadsOperand i s w fun m => ends (a ^^^ m))

/-- BIT in every form (R258): Z from the AND; N and V from the operand, but for the immediate form. That the immediate form leaves N, as
R258 says, where R39 with R34 has N written wherever Z is, is the model's choice between them (log 19). -/
def Obligations.BitTest : Prop :=
  ∀ (i : Instr) (s : State), i.mnemonic = .bit →
    let w := s.cpu.mw
    ReadsOperand i s w fun m =>
      let z := decide (low w s.cpu.a &&& m = 0)
      if i.opcode = 0x89 then { s.cpu with p := { s.cpu.p with z := z } }
      else { s.cpu with p := { s.cpu.p with z := z, n := m.testBit (8 * w.bytes - 1), v := m.testBit (8 * w.bytes - 2) } }

/-- TSB and TRB in every form (R269, R270): Z from the AND with the value read, the bits of A set or reset in memory. That N stays, as
R269 and R270 say, where R39 with R34 has N written wherever Z is, is the model's choice between them (log 19). -/
def Obligations.TestAndModify : Prop :=
  ∀ (i : Instr) (s : State),
    let w := s.cpu.mw
    let a := low w s.cpu.a
    let flags := fun m _ : Nat => { s.cpu.p with z := decide (a &&& m = 0) }
    (i.mnemonic = .tsb → ModifiesMemory i s w (fun m => m ||| a) flags) ∧
    (i.mnemonic = .trb → ModifiesMemory i s w (fun m => m &&& (size w - 1 - a)) flags)

/-- INC and DEC in every form, on the accumulator and on memory (R259, R262); INX, INY, DEX and DEY (R260, R261, R263, R264). -/
def Obligations.IncrementsAndDecrements : Prop :=
  (∀ (i : Instr) (s : State),
     let w := s.cpu.mw
     (i.mnemonic = .inc → Modifies i s (fun v => v + 1) fun _ r => withNZ s.cpu.p w r) ∧
     (i.mnemonic = .dec → Modifies i s (fun v => v + size w - 1) fun _ r => withNZ s.cpu.p w r)) ∧
  (∀ s : State,
     let c := s.cpu
     let w := c.xw
     let plus := fun v : Word => (v.toNat + 1) % size w
     let minus := fun v : Word => (v.toNat + 65535) % size w
     RegistersOnly .inx s { c with x := BitVec.ofNat 16 (plus c.x), p := withNZ c.p w (plus c.x) } ∧
     RegistersOnly .iny s { c with y := BitVec.ofNat 16 (plus c.y), p := withNZ c.p w (plus c.y) } ∧
     RegistersOnly .dex s { c with x := BitVec.ofNat 16 (minus c.x), p := withNZ c.p w (minus c.x) } ∧
     RegistersOnly .dey s { c with y := BitVec.ofNat 16 (minus c.y), p := withNZ c.p w (minus c.y) })

/-- ASL, LSR, ROL and ROR in every form, on the accumulator and on memory (R265 to R268). -/
def Obligations.ShiftsAndRotates : Prop :=
  ∀ (i : Instr) (s : State),
    let w := s.cpu.mw
    let k := s.cpu.p.c.toNat
    let left := fun v r : Nat => { withNZ s.cpu.p w r with c := decide (size w / 2 ≤ v) }
    let right := fun v r : Nat => { withNZ s.cpu.p w r with c := decide (v % 2 = 1) }
    (i.mnemonic = .asl → Modifies i s (fun v => 2 * v) left) ∧
    (i.mnemonic = .lsr → Modifies i s (fun v => v / 2) right) ∧
    (i.mnemonic = .rol → Modifies i s (fun v => 2 * v + k) left) ∧
    (i.mnemonic = .ror → Modifies i s (fun v => v / 2 + k * (size w / 2)) right)

/-! ## Control flow (spec/43_control_flow.md) -/

/-- The eight branches and BRA (R300 to R308, R193): where the condition holds PC is the address after the instruction plus the signed
displacement, in the same bank; else the address after the instruction. -/
def Obligations.Branches : Prop :=
  ∀ (rel : Byte) (i : Instr) (s : State),
    i ∈ [Instr.bcc rel, .bcs rel, .beq rel, .bne rel, .bmi rel, .bpl rel, .bvc rel, .bvs rel, .bra rel] →
    ∃ t, exec i s = .next t ∧
      t.cpu = { s.cpu with pc := BitVec.ofInt 16 (s.cpu.pc.toNat + 2 + if branchCondition i s.cpu.p then rel.toInt else 0) } ∧
      t.bus = s.bus ∧ Frame s t

/-- BRL, JMP and JML in every form (R309, R310, R311, R188 to R190). That the pointer of JML [addr] wraps within bank 0, as R189 and R311
say, where R66 has absolute-long pointers run on into bank 1, is the model's choice between them (log 20); they differ for the operands
0xFFFE and 0xFFFF only. -/
def Obligations.Jumps : Prop :=
  ∀ (a : Word) (l : Addr) (s : State),
    let c := s.cpu
    let goes := fun (i : Instr) (d : Cpu) (b : Bus) => ∃ t, exec i s = .next t ∧ t.cpu = d ∧ t.bus = b ∧ MemoryKept s t ∧ Frame s t
    let inBank := fun (bank n : Nat) => bank * 65536 + n % 65536
    let p := pointer16 (inBank 0 a.toNat) (inBank 0 (a.toNat + 1)) s
    let q := pointer16 (inBank c.pb.toNat (a.toNat + c.x.toNat)) (inBank c.pb.toNat (a.toNat + c.x.toNat + 1)) s
    let r := pointer24 (inBank 0 a.toNat) (inBank 0 (a.toNat + 1)) (inBank 0 (a.toNat + 2)) s
    goes (.brl a) { c with pc := BitVec.ofNat 16 (c.pc.toNat + 3 + a.toNat) } s.bus ∧
    goes (.jmpAbs a) { c with pc := a } s.bus ∧
    goes (.jmpAbsInd a) { c with pc := BitVec.ofNat 16 p.1 } p.2.bus ∧
    goes (.jmpAbsIndX a) { c with pc := BitVec.ofNat 16 q.1 } q.2.bus ∧
    goes (.jmlLong l) { c with pb := BitVec.ofNat 8 (l.toNat / 65536), pc := BitVec.ofNat 16 l.toNat } s.bus ∧
    goes (.jmlAbsIndLong a) { c with pb := BitVec.ofNat 8 (r.1 / 65536), pc := BitVec.ofNat 16 r.1 } r.2.bus

/-- JSR and JSL (R312, R313): the address of the instruction's last byte is pushed; JSR (addr,X) reads its pointer after the
pushes. RTS and RTL (R314, R315): PC is the pulled offset plus one. -/
def Obligations.CallsAndReturns : Prop :=
  (∀ (a : Word) (l : Addr) (s : State),
     let c := s.cpu
     let last := fun n => pushBytes .w16 ((c.pc.toNat + n) % 65536)
     let nw := s.params.noWrap.contains 0xFC
     let pushed := pushAll c.p.e nw (last 2) s.bus c.s.toNat
     let at_ := fun k => c.pb.toNat * 65536 + (a.toNat + c.x.toNat + k) % 65536
     let q := wordRead s.params.wmaddReadable (at_ 0) (at_ 1) pushed.1
     Pushes (.jsrAbs a) s s.bus (last 2) { c with pc := a } ∧
     Pushes (.jsl l) s s.bus (c.pb.toNat :: last 3)
       { c with pb := BitVec.ofNat 8 (l.toNat / 65536), pc := BitVec.ofNat 16 l.toNat } ∧
     (∃ t, exec (.jsrAbsIndX a) s = .next t ∧
       t.cpu = { c with s := settle c.p.e nw pushed.2, pc := BitVec.ofNat 16 q.1 } ∧ t.bus = q.2 ∧
       (∀ k, k ∉ pushCells c.p.e nw (last 2) s.bus c.s.toNat → t.bus.cellByte k = s.bus.cellByte k) ∧ Frame s t)) ∧
  (∀ s : State,
     Pulls .rts s 2 (fun l => { s.cpu with pc := BitVec.ofNat 16 (pulledNumber l + 1) }) Frame ∧
     Pulls .rtl s 3
       (fun l => { s.cpu with pc := BitVec.ofNat 16 (pulledNumber l + 1), pb := BitVec.ofNat 8 (l.getD 2 0) }) Frame)

/-- JSR and then RTS, with the stack in the WRAM of bank 0, come back to the next instruction with every register as before
(R312, R314). -/
def Obligations.CallThenReturn : Prop :=
  ∀ (a : Word) (s : State), s.inv = true → s.params.noWrap = [] → 1 ≤ s.cpu.s.toNat → s.cpu.s.toNat < 0x2000 →
    ∃ t u, exec (.jsrAbs a) s = .next t ∧ exec .rts t = .next u ∧
      u.cpu = { s.cpu with pc := BitVec.ofNat 16 (s.cpu.pc.toNat + 3) }

/-! ## The stack (spec/44_stack.md) -/

/-- The ten pushes (R343 to R349, R356 to R358). -/
def Obligations.StackPushes : Prop :=
  ∀ (a : Word) (dp : Byte) (s : State),
    let c := s.cpu
    let pushes := fun (i : Instr) (bytes : List Nat) => Pushes i s s.bus bytes (advance i s c)
    let p := pointer16 (directOffset c dp.toNat false) (directOffset c (dp.toNat + 1) false) s
    pushes .pha (pushBytes c.mw c.a.toNat) ∧ pushes .phx (pushBytes c.xw c.x.toNat) ∧ pushes .phy (pushBytes c.xw c.y.toNat) ∧
    pushes .php [statusNumber c.p] ∧ pushes .phb [c.db.toNat] ∧ pushes .phd (pushBytes .w16 c.d.toNat) ∧
    pushes .phk [c.pb.toNat] ∧ pushes (.pea a) (pushBytes .w16 a.toNat) ∧
    pushes (.per a) (pushBytes .w16 ((c.pc.toNat + 3 + a.toNat) % 65536)) ∧
    Pushes (.pei dp) s p.2.bus (pushBytes .w16 p.1) (advance (.pei dp) s c)

/-- PLA, PLX, PLY, PLB and PLD (R350, R351, R352, R354, R355). PLP (R353): all eight flags, M and X held at 1 in emulation mode,
X.h and Y.h cleared where X is 1; E stays. -/
def Obligations.StackPulls : Prop :=
  (∀ s : State,
     let c := s.cpu
     Pulls .pla s c.mw.bytes (fun l =>
       advance .pla s { c with a := writtenA c.mw c.a (pulledNumber l), p := withNZ c.p c.mw (pulledNumber l) }) Frame ∧
     Pulls .plx s c.xw.bytes (fun l =>
       advance .plx s { c with x := BitVec.ofNat 16 (pulledNumber l), p := withNZ c.p c.xw (pulledNumber l) }) Frame ∧
     Pulls .ply s c.xw.bytes (fun l =>
       advance .ply s { c with y := BitVec.ofNat 16 (pulledNumber l), p := withNZ c.p c.xw (pulledNumber l) }) Frame ∧
     Pulls .plb s 1 (fun l =>
       advance .plb s { c with db := BitVec.ofNat 8 (pulledNumber l), p := withNZ c.p .w8 (pulledNumber l) }) Frame ∧
     Pulls .pld s 2 (fun l =>
       advance .pld s { c with d := BitVec.ofNat 16 (pulledNumber l), p := withNZ c.p .w16 (pulledNumber l) }) Frame) ∧
  (∀ s : State,
     let c := s.cpu
     Pulls .plp s 1 (fun l =>
       let p := pulledStatus c.p (l.getD 0 0)
       advance .plp s { c with p := p, x := indexUnder p.x c.x, y := indexUnder p.x c.y }) MarkedFrame)

/-! ## Status and system (spec/45_status_system.md) -/

/-- The seven flag instructions (R370 to R376); CLI and SEI remember the I from before, the model's way to R418 (log 8). -/
def Obligations.FlagInstructions : Prop :=
  ∀ s : State,
    let c := s.cpu
    let marked := fun (i : Instr) (p : Status) =>
      ∃ t, exec i s = .next t ∧ t.cpu = advance i s { c with p := p } ∧ t.bus = s.bus ∧ MarkedFrame s t
    RegistersOnly .clc s { c with p := { c.p with c := false } } ∧ RegistersOnly .sec s { c with p := { c.p with c := true } } ∧
    RegistersOnly .cld s { c with p := { c.p with d := false } } ∧ RegistersOnly .sed s { c with p := { c.p with d := true } } ∧
    RegistersOnly .clv s { c with p := { c.p with v := false } } ∧
    marked .cli { c.p with i := false } ∧ marked .sei { c.p with i := true }

/-- REP and SEP (R377, R378): the flags of the mask cleared or set; REP leaves M and X at 1 in emulation mode; SEP clears X.h and Y.h
where X is then 1. -/
def Obligations.MaskInstructions : Prop :=
  ∀ (mask : Byte) (s : State),
    let c := s.cpu
    let m := mask.toNat
    let rep : Status := {
      n := c.p.n && !m.testBit 7, v := c.p.v && !m.testBit 6, m := c.p.e || (c.p.m && !m.testBit 5)
      x := c.p.e || (c.p.x && !m.testBit 4), d := c.p.d && !m.testBit 3, i := c.p.i && !m.testBit 2
      z := c.p.z && !m.testBit 1, c := c.p.c && !m.testBit 0, e := c.p.e }
    let sep : Status := {
      n := c.p.n || m.testBit 7, v := c.p.v || m.testBit 6, m := c.p.m || m.testBit 5, x := c.p.x || m.testBit 4
      d := c.p.d || m.testBit 3, i := c.p.i || m.testBit 2, z := c.p.z || m.testBit 1, c := c.p.c || m.testBit 0, e := c.p.e }
    (∃ t, exec (.rep mask) s = .next t ∧ t.cpu = advance (.rep mask) s { c with p := rep } ∧ t.bus = s.bus ∧ MarkedFrame s t) ∧
    (∃ t, exec (.sep mask) s = .next t ∧
      t.cpu = advance (.sep mask) s { c with p := sep, x := indexUnder sep.x c.x, y := indexUnder sep.x c.y } ∧
      t.bus = s.bus ∧ MarkedFrame s t)

/-- XCE (R379): C and E exchanged; entering emulation mode forces M, X, the index high bytes and the stack page. -/
def Obligations.ExchangeCarryEmulation : Prop :=
  ∀ s : State,
    let c := s.cpu
    RegistersOnly .xce s
      (if c.p.c then
        { c with
          p := { c.p with c := c.p.e, e := true, m := true, x := true }
          x := BitVec.ofNat 16 (c.x.toNat % 256), y := BitVec.ofNat 16 (c.y.toNat % 256)
          s := BitVec.ofNat 16 (256 + c.s.toNat % 256) }
      else { c with p := { c.p with c := c.p.e, e := false } })

/-- NOP, WDM, WAI and STP (R380 to R383): only PC moves, and WAI and STP enter their run states. -/
def Obligations.IdleInstructions : Prop :=
  ∀ (sig : Byte) (s : State),
    let runs := fun (i : Instr) (n : Nat) (r : RunState) =>
      ∃ t, exec i s = .next t ∧ t.cpu = { s.cpu with pc := BitVec.ofNat 16 (s.cpu.pc.toNat + n) } ∧ t.bus = s.bus ∧ t.run = r ∧
        Frame s { t with run := s.run }
    runs .nop 1 s.run ∧ runs (.wdm sig) 2 s.run ∧ runs .wai 1 .waiting ∧ runs .stp 1 .stopped

/-- BRK and COP take their exception (R384, R385, R421): the address after the signature byte and the whole status byte are saved. -/
def Obligations.SoftwareInterrupts : Prop :=
  ∀ (sig : Byte) (s : State),
    let enters := fun (i : Instr) (vector : Nat) =>
      ∃ t, exec i s = .next t ∧
        Entered s t (s.params.noWrap.contains i.opcode) ((s.cpu.pc.toNat + 2) % 65536) (statusNumber s.cpu.p) vector
    enters (.brk sig) (if s.cpu.p.e then 0xFFFE else 0xFFE6) ∧ enters (.cop sig) (if s.cpu.p.e then 0xFFF4 else 0xFFE4)

/-- RTI (R386, R423): the status, PC and in native mode PB pulled in that order; E stays. -/
def Obligations.ReturnFromInterrupt : Prop :=
  ∀ s : State,
    let c := s.cpu
    Pulls .rti s (if c.p.e then 3 else 4) (fun l =>
      let p := pulledStatus c.p (l.getD 0 0)
      { c with
        p := p, x := indexUnder p.x c.x, y := indexUnder p.x c.y, pc := BitVec.ofNat 16 (pulledNumber l.tail)
        pb := if c.p.e then c.pb else BitVec.ofNat 8 (l.getD 3 0) }) MarkedFrame

/-- BRK or COP and then RTI, with the stack in the WRAM of bank 0, come back to the byte after the signature with every register and
flag as before, but for PB in emulation mode, whose frame does not hold it (R384, R385, R386, R423). -/
def Obligations.InterruptThenReturn : Prop :=
  ∀ (sig : Byte) (i : Instr) (s : State), i ∈ [Instr.brk sig, .cop sig] → s.inv = true → s.params.noWrap = [] →
    3 ≤ s.cpu.s.toNat → s.cpu.s.toNat < 0x2000 →
    ∃ t u, exec i s = .next t ∧ exec .rti t = .next u ∧
      u.cpu = { s.cpu with pc := BitVec.ofNat 16 (s.cpu.pc.toNat + 2), pb := if s.cpu.p.e then 0 else s.cpu.pb }

/-! ## Block moves (spec/46_block_move.md) -/

/-- One step of MVN and MVP (R400, R401, R402): one byte moved, X and Y stepped within the index width, A counted down, DB the
destination bank, PC held until A is 0xFFFF. -/
def Obligations.BlockMoveStep : Prop :=
  ∀ (dst src : Byte) (s : State),
    let c := s.cpu
    let w := c.xw
    let from_ : Addr := BitVec.ofNat 24 (src.toNat * 65536 + c.x.toNat)
    let to_ : Addr := BitVec.ofNat 24 (dst.toNat * 65536 + c.y.toNat)
    let r := s.bus.read s.params.wmaddReadable false from_
    let moves := fun (i : Instr) (step : Nat) =>
      ∃ t, exec i s = .next t ∧
        t.cpu = { c with
          x := BitVec.ofNat 16 ((c.x.toNat + step) % size w), y := BitVec.ofNat 16 ((c.y.toNat + step) % size w)
          a := BitVec.ofNat 16 (c.a.toNat + 65535), db := dst
          pc := if c.a.toNat = 0 then BitVec.ofNat 16 (c.pc.toNat + 3) else c.pc } ∧
        t.bus = r.2.write to_ r.1 ∧
        (∀ k, r.2.storeCell to_ ≠ some k → t.bus.cellByte k = s.bus.cellByte k) ∧ Frame s t
    moves (.mvn dst src) 1 ∧ moves (.mvp dst src) 65535

/-! ## The cycle counter (spec/30_encoding.md) -/

/-- The cycles of every instruction (R150, R151, R152), with the registers at decode. -/
def Obligations.CycleCount : Prop :=
  ∀ (i : Instr) (s : State),
    let c := s.cpu
    let rec_ := opRecord i.opcode
    let r := resolve i.operand s
    let add := fun o n (cond : Bool) => optionCycles rec_.options o n (cond = true)
    let direct := match s.params.dpPenaltyTest with
      | .wholeD => decide (c.d.toNat ≠ 0)
      | .lowByte => decide (c.d.toNat % 256 ≠ 0)
    let pageCross := decide (r.base.toNat / 256 ≠ r.ea.addr.toNat / 256)
    let taken := s.params.branchCycles && branchCondition i c.p
    let next := (c.pc.toNat + totalFetchBytes c.widths i.opcode) % 65536
    ∃ t, exec i s = .next t ∧
      t.cycles = s.cycles + rec_.cycles
        + add .add1CycleIf16bitAccess 1 (!c.p.e && !c.p.m)
        + add .add2CycleIf16bitAccess 2 (!c.p.e && !c.p.m)
        + add .add1CycleIfDPRegNonZero 1 direct
        + add .add1CycleIfPageBoundaryOrXRegZero 1 (!c.p.x || (s.params.pageCrossPenalty && pageCross))
        + add .add1CycleIfXZero 1 (!c.p.x)
        + add .add1CycleIfNativeMode 1 (!c.p.e)
        + add .add1CycleIfBranchTaken 1 taken
        + add .add1CycleIfBranchPageCrossInEmulation 1
            (taken && c.p.e && decide (r.ea.addr.toNat % 65536 / 256 ≠ next / 256))

/-! ## Who writes what: rules over all instructions -/

/-- Every instruction executes in every state: none stops, and none traps for a mode reason (R140, R410, R427, R434). So does every step
of a machine with a cartridge, where UNINIT_READ is DRAW. -/
def Obligations.EveryInstructionCompletes : Prop :=
  (∀ (i : Instr) (s : State), ∃ t, exec i s = .next t) ∧
  (∀ s : State, s.bus.cart.isSome = true → s.params.uninitRead = .draw → ∃ t, step s = .next t) ∧
  (∀ s : State, s.bus.cart = none → step s = .refused .noCartridge)

/-- Which instructions write a flag (R33 to R39): every other one leaves it. That TSB, TRB and BIT # leave N is what R258, R269 and R270
say of each, where R39 has N written wherever Z is: the model's choice between them (log 19). E is written by no instruction but XCE, which gives it
the old C; the reset sequence sets it (R41). -/
def Obligations.FlagWriters : Prop :=
  (∀ (i : Instr) (s : State), ∃ t, exec i s = .next t ∧
     let m := i.mnemonic
     (m ∉ carryWriters → t.cpu.p.c = s.cpu.p.c) ∧
     (m ∉ zeroWriters → t.cpu.p.z = s.cpu.p.z) ∧
     (m ∉ negativeWriters → t.cpu.p.n = s.cpu.p.n) ∧
     (m ∉ overflowWriters → t.cpu.p.v = s.cpu.p.v) ∧
     (m ∉ maskWriters → t.cpu.p.i = s.cpu.p.i) ∧
     (m ∉ decimalWriters → t.cpu.p.d = s.cpu.p.d) ∧
     (m ∉ widthWriters → t.cpu.p.m = s.cpu.p.m ∧ t.cpu.p.x = s.cpu.p.x)) ∧
  ((∀ (i : Instr) (s : State), ∃ t, exec i s = .next t ∧ t.cpu.p.e = if i = .xce then s.cpu.p.c else s.cpu.p.e) ∧
   (∀ (nmi : Bool) (s : State), (s.resetSequence nmi).cpu.p.e = true))

/-- PB changes only through JML, JSL, RTL, RTI in native mode, BRK and COP (R28); DB only through PLB, MVN and MVP; D only through
PLD and TCD; A, X, Y and S only through the instructions listed. -/
def Obligations.RegisterWriters : Prop :=
  (∀ (i : Instr) (s : State), ∃ t, exec i s = .next t ∧
     let m := i.mnemonic
     (m ∉ ([.jml, .jsl, .rtl, .rti, .brk, .cop] : List Mnemonic) → t.cpu.pb = s.cpu.pb) ∧
     (m = .rti → s.cpu.p.e = true → t.cpu.pb = s.cpu.pb) ∧
     (m ∉ ([.plb, .mvn, .mvp] : List Mnemonic) → t.cpu.db = s.cpu.db) ∧
     (m ∉ ([.pld, .tcd] : List Mnemonic) → t.cpu.d = s.cpu.d)) ∧
  (∀ (i : Instr) (s : State), ∃ t, exec i s = .next t ∧
     let m := i.mnemonic
     (m ∉ accumulatorWriters →
       t.cpu.a = s.cpu.a) ∧
     (m ∉ ([.ldx, .tax, .tyx, .tsx, .inx, .dex, .plx, .mvn, .mvp, .plp, .rti, .sep, .xce] : List Mnemonic) → t.cpu.x = s.cpu.x) ∧
     (m ∉ ([.ldy, .tay, .txy, .iny, .dey, .ply, .mvn, .mvp, .plp, .rti, .sep, .xce] : List Mnemonic) → t.cpu.y = s.cpu.y) ∧
     (m ∉ stackWriters → t.cpu.s = s.cpu.s))

/-- Which instructions store: every other one leaves every byte of every memory. -/
def Obligations.MemoryWriters : Prop :=
  ∀ (i : Instr) (s : State), ∃ t, exec i s = .next t ∧
    (i.mnemonic ∉ memoryWriters → MemoryKept s t)

/-! ## The machine (spec/60_exceptions.md, spec/70_reset_and_hazards.md) -/

/-- At an ordinary boundary a step is exec of the instruction that the bytes fetched at PB:PC decode to, on the state after fetching
them (R134, R136, R417): with any inputs to come, an NMI line held, right after any instruction. What the step adds around exec is
the state fetched from: the boundary's input is taken and its NMI line recorded, the external agent has acted if its parameter allows
it, and the mark of R418 is cleared. That past the end of the inputs every line is deasserted (log 10) and that the agent acts first
(log 11) is the model's choice. -/
def Obligations.StepRunsDecodedInstruction : Prop :=
  ∀ (s : State) (i : Instr), Quiet s → s.params.uninitRead = .draw →
    let u := latched s
    let op := u.read8 (addr24 u.cpu.pb u.cpu.pc)
    let rest := State.fetchBytes u.cpu.pb (u.cpu.pc + 1) (operandBytes u.cpu.widths op.1) op.2
    decode u.cpu.widths (op.1 :: rest.1) = .ok (i, []) → i.wellFormed u.cpu.widths = true →
    u.cpu = s.cpu ∧ u.cycles = s.cycles ∧ step s = exec i rest.2

/-- What the machine holds right after reset, where the spec gives it (R54); and for a machine given a cartridge file and its inputs,
that and PC and `nmi_prev`: PC is the word at 00:FFFC, read over the new cartridge, and `nmi_prev` the NMI line of boundary 0, which is
taken (R460, R462). PC of State.reset, which has no cartridge, is the model's (log 4). -/
def Obligations.ResetValues : Prop :=
  let given := fun s : State =>
    s.cpu.p.e = true ∧ s.cpu.p.m = true ∧ s.cpu.p.x = true ∧ s.cpu.p.i = true ∧ s.cpu.p.d = false ∧
    s.cpu.x.toNat / 256 = 0 ∧ s.cpu.y.toNat / 256 = 0 ∧ s.cpu.s.toNat / 256 = 1 ∧ s.cpu.d = 0 ∧ s.cpu.db = 0 ∧ s.cpu.pb = 0 ∧
    s.run = .running ∧ s.nmiPending = false ∧ s.cycles = 0
  given State.reset ∧
  ∀ (p : Params) (ins : List BoundaryInput) (img : RomImage) (cart : Cartridge), constructCartridge img = some cart →
    let v := wordRead p.wmaddReadable 0xFFFC 0xFFFD { State.reset.bus with cart := some cart }
    ∃ t, State.boot img { State.reset with params := p, inputs := ins } = some t ∧ given t ∧
      t.cpu.pc = BitVec.ofNat 16 v.1 ∧ t.bus = v.2 ∧ t.nmiPrev = (ins.headD {}).nmi ∧ t.inputs = ins.tail ∧ t.params = p

/-- The reset line wins at every boundary, in every run state (R416, R419, R460). That the external agent has acted by then is the
model's choice (log 11). -/
def Obligations.ResetTaken : Prop :=
  ∀ s : State, s.bus.cart.isSome = true → s.params.uninitRead = .draw → (line s).reset = true →
    let u := atBoundary s
    let v := wordRead s.params.wmaddReadable 0xFFFC 0xFFFD u.bus
    ∃ t, step s = .next t ∧
      t.cpu = { s.cpu with
        p := { s.cpu.p with e := true, m := true, x := true, i := true, d := false }
        x := BitVec.ofNat 16 (s.cpu.x.toNat % 256), y := BitVec.ofNat 16 (s.cpu.y.toNat % 256)
        s := BitVec.ofNat 16 (256 + s.cpu.s.toNat % 256), d := 0, db := 0, pb := 0, pc := BitVec.ofNat 16 v.1 } ∧
      t.bus = v.2 ∧ (∀ c, t.bus.cellByte c = u.bus.cellByte c) ∧ t.bus.cart = s.bus.cart ∧ t.cycles = s.cycles ∧
      t.nmiPending = false ∧ t.nmiPrev = (line s).nmi ∧ t.run = .running

/-- A requested NMI is taken, whatever I and the IRQ line (R412, R419, R420, R421). That the external agent has acted by then is the
model's choice (log 11). -/
def Obligations.NmiTaken : Prop :=
  ∀ s : State, s.bus.cart.isSome = true → s.params.uninitRead = .draw → (line s).reset = false → s.run ≠ .stopped →
    nmiRequested s = true →
    let u := { latched s with nmiPending := false }
    ∃ t, step s = .next t ∧
      Entered u t s.params.noWrapInt s.cpu.pc.toNat
        (statusNumber (if s.cpu.p.e then { s.cpu.p with x := false } else s.cpu.p)) (if s.cpu.p.e then 0xFFFA else 0xFFEA) ∧
      t.cycles = s.cycles + if s.cpu.p.e then 7 else 8

/-- An asserted IRQ at a boundary with no NMI: taken where the mask in force is 0 (R413, R414, R418 to R421); else the next
instruction executes at this same boundary, after WAI too (R414, R425). The agent's place before the lines (log 11) and the
counting of draws (log 8) are the model's. -/
def Obligations.IrqAtBoundary : Prop :=
  (∀ s : State, s.bus.cart.isSome = true → s.params.uninitRead = .draw → (line s).reset = false → s.run ≠ .stopped →
     nmiRequested s = false → (line s).irq = true → maskInForce s = false →
     let u := { latched s with draws := drawsAfterMask s }
     ∃ t, step s = .next t ∧
       Entered u t s.params.noWrapInt s.cpu.pc.toNat
         (statusNumber (if s.cpu.p.e then { s.cpu.p with x := false } else s.cpu.p)) (if s.cpu.p.e then 0xFFFE else 0xFFEE) ∧
       t.cycles = s.cycles + if s.cpu.p.e then 7 else 8) ∧
  (∀ s : State, s.bus.cart.isSome = true → s.params.uninitRead = .draw → (line s).reset = false → s.run ≠ .stopped →
     nmiRequested s = false → (line s).irq = true → maskInForce s = true →
     let u := { latched s with draws := drawsAfterMask s }
     step s = exec u.fetch.1 u.fetch.2)

/-- While stopped without RESET a step changes nothing (R426), but that it takes the boundary's input; while waiting with no line
asserted it changes only that, the NMI line it records, and what the external agent does (R425). That inputs are taken in these states
and that the agent acts while waiting is the model's choice (log 10, 11). -/
def Obligations.WaitingAndStoppedStay : Prop :=
  ∀ s : State, s.bus.cart.isSome = true → s.params.uninitRead = .draw → (line s).reset = false →
    (s.run = .stopped → step s = .next { s with inputs := s.inputs.tail }) ∧
    (s.run = .waiting → nmiRequested s = false → (line s).irq = false →
      step s = .next { atBoundary s with nmiPending := false, nmiPrev := (line s).nmi })

/-- The external agent writes WRAM and WmAddr only, and does nothing where EXT_AGENT_WRAM_ACCESS is false; where it is true each byte of
WRAM takes the last value the agent lists for it, every other byte stays, and WmAddr takes the value given, if any (R77). -/
def Obligations.AgentBounds : Prop :=
  ∀ (inp : BoundaryInput) (s : State),
    let t := s.agentStep inp
    (s.params.extAgent = false → t = s) ∧
    (∃ m a r, t = { s with bus := { s.bus with wram := m, wmAddr := a }, marks := r } ∧
      (s.bus.wf = true → t.bus.wf = true) ∧ (s.params.uninitRead = .draw → r = s.marks)) ∧
    (s.params.extAgent = true → s.bus.wf = true →
      t.bus.wmAddr = inp.agentWmAddr.getD s.bus.wmAddr ∧
      ∀ k : BitVec 17, t.bus.cellByte (.wram, k.toNat) =
        ((inp.agentWrites.reverse.find? fun w => w.1 == k).map (·.2)).getD (s.bus.cellByte (.wram, k.toNat)))

/-- Every step keeps the invariant: the emulation-mode invariant, the index-width invariant and the canonical form of every memory
(R42, R43) and of the model's record of what has been written. -/
def Obligations.StepKeepsInvariant : Prop :=
  ∀ s t : State, s.inv = true → step s = .next t → t.inv = true

/-- The machine right after reset meets the invariant; so does the machine any accepted cartridge file boots into. -/
def Obligations.ResetMeetsInvariant : Prop :=
  State.reset.inv = true ∧
  (∀ img : RomImage, img.bytes.wf img.size = true → ∀ s, State.reset.boot img = some s → s.inv = true)

/-- No step changes the parameters or the cartridge (R48, R53). -/
def Obligations.ConfigurationIsFixed : Prop :=
  ∀ s t : State, step s = .next t → t.params = s.params ∧ t.bus.cart = s.bus.cart ∧ s.cycles ≤ t.cycles

/-- UNINIT_READ = FAULT (R7, R54, R463, R474). A step of a machine with a cartridge goes on or ends in the fault of an unwritten read. At
an ordinary boundary it ends so if the instruction reads a register or flag still unwritten, and if it goes on it is exec of the
instruction, but for the record. A read of a memory cell not yet written is such a read, and a store marks its cell. What counts as a
read of a register is the model's inference (log 5). -/
def Obligations.UninitialisedReads : Prop :=
  ∀ s : State, s.params.uninitRead = .fault → s.bus.cart.isSome = true →
    ((∃ t, step s = .next t ∧ t.marks.violated = false) ∨ step s = .fault .uninitialisedRead) ∧
    (Quiet s →
      let u := latched s
      let f := u.fetch
      (∀ d ∈ drawnReads f.1 u.cpu, d ∈ f.2.marks.unwritten → step s = .fault .uninitialisedRead) ∧
      (∀ t, step s = .next t → ∃ m, exec f.1 { f.2 with marks := m } = .next t)) ∧
    (∀ (a : Addr) (c : CellId) (k : Nat), s.bus.locate a = some c → ramIndex c = some k →
      s.marks.cells.read k = 0 → (s.read8 a).2.marks.violated = true) ∧
    (∀ (a : Addr) (v : Byte) (c : CellId) (k : Nat), s.marks.wf = true → s.bus.storeCell a = some c → ramIndex c = some k →
      (s.write8 a v).marks.cells.read k = 1)
end

