-- ==== Sys2Proof/Laws/Memory.lean ====
section
/-! SUPPORT. The laws of byte memory: a read after a write, and that a write keeps the canonical form. -/

namespace Sys2Proof.Machine

/-- A write leaves every other address alone. -/
theorem Mem.read_write_other (m : Mem) (a b : Nat) (v : Byte) (h : b ≠ a) : (m.write a v).read b = m.read b := by
  induction m with
  | nil =>
    simp only [Mem.write]
    split
    · rfl
    · simp [Mem.read, Ne.symm h]
  | cons c rest ih =>
    obtain ⟨k, w⟩ := c
    simp only [Mem.write]
    split
    · split
      · rfl
      · simp [Mem.read, Ne.symm h]
    · split
      · rename_i hk
        subst hk
        split <;> simp [Mem.read, Ne.symm h]
      · simp only [Mem.read, ih]

/-- Below the first listed address nothing is listed. -/
theorem Mem.read_below (bound : Nat) (m : Mem) (lo a : Nat) (hw : m.wfFrom bound lo = true) (h : a < lo) :
    m.read a = Mem.unlisted := by
  induction m generalizing lo with
  | nil => rfl
  | cons c rest ih =>
    obtain ⟨k, w⟩ := c
    simp only [Mem.wfFrom, Bool.and_eq_true, decide_eq_true_eq] at hw
    obtain ⟨⟨⟨h1, _⟩, _⟩, h4⟩ := hw
    simp only [Mem.read]
    rw [if_neg (by omega)]
    exact ih (k + 1) h4 (by omega)

/-- In a canonical memory a read after a write to the same address gives the byte written. -/
theorem Mem.read_write_same_from (bound : Nat) (m : Mem) (lo a : Nat) (v : Byte) (hw : m.wfFrom bound lo = true) :
    (m.write a v).read a = v := by
  induction m generalizing lo with
  | nil =>
    simp only [Mem.write]
    split
    · rename_i hv; rw [hv]; rfl
    · simp [Mem.read]
  | cons c rest ih =>
    obtain ⟨k, w⟩ := c
    have hw' := hw
    simp only [Mem.wfFrom, Bool.and_eq_true, decide_eq_true_eq] at hw
    obtain ⟨⟨⟨_, _⟩, _⟩, h4⟩ := hw
    simp only [Mem.write]
    split
    · rename_i hlt
      split
      · rename_i hv
        rw [hv]
        simp only [Mem.read]
        rw [if_neg (by omega)]
        exact Mem.read_below bound rest (k + 1) a h4 (by omega)
      · simp [Mem.read]
    · split
      · rename_i hk
        split
        · rename_i hv
          rw [hv]
          exact Mem.read_below bound rest (k + 1) a h4 (by omega)
        · simp [Mem.read]
      · rename_i hk
        simp only [Mem.read]
        rw [if_neg hk]
        exact ih (k + 1) h4

theorem Mem.read_write_same (bound : Nat) (m : Mem) (a : Nat) (v : Byte) (hw : m.wf bound = true) :
    (m.write a v).read a = v := Mem.read_write_same_from bound m 0 a v hw

/-- A canonical form from a higher address is one from a lower address. -/
theorem Mem.wfFrom_mono (bound : Nat) (m : Mem) (lo lo' : Nat) (h : lo' ≤ lo) (hw : m.wfFrom bound lo = true) :
    m.wfFrom bound lo' = true := by
  cases m with
  | nil => rfl
  | cons c rest =>
    obtain ⟨k, w⟩ := c
    simp only [Mem.wfFrom, Bool.and_eq_true, decide_eq_true_eq] at hw ⊢
    exact ⟨⟨⟨by omega, hw.1.1.2⟩, hw.1.2⟩, hw.2⟩

/-- A write keeps the canonical form. -/
theorem Mem.wfFrom_write (bound : Nat) (m : Mem) (lo a : Nat) (v : Byte) (hlo : lo ≤ a) (ha : a < bound)
    (hw : m.wfFrom bound lo = true) : (m.write a v).wfFrom bound lo = true := by
  induction m generalizing lo with
  | nil =>
    simp only [Mem.write]
    split
    · rfl
    · simp [Mem.wfFrom, *]
  | cons c rest ih =>
    obtain ⟨k, w⟩ := c
    have hw' := hw
    simp only [Mem.wfFrom, Bool.and_eq_true, decide_eq_true_eq] at hw
    obtain ⟨⟨⟨h1, h2⟩, h3⟩, h4⟩ := hw
    simp only [Mem.write]
    split
    · rename_i hlt
      split
      · exact hw'
      · rename_i hv
        simp only [Mem.wfFrom, Bool.and_eq_true, decide_eq_true_eq]
        exact ⟨⟨⟨hlo, ha⟩, hv⟩, ⟨⟨by omega, h2⟩, h3⟩, h4⟩
    · split
      · rename_i hk
        subst hk
        split
        · exact Mem.wfFrom_mono bound rest (k + 1) lo (by omega) h4
        · rename_i hv
          simp only [Mem.wfFrom, Bool.and_eq_true, decide_eq_true_eq]
          exact ⟨⟨⟨hlo, ha⟩, hv⟩, h4⟩
      · rename_i hk
        simp only [Mem.wfFrom, Bool.and_eq_true, decide_eq_true_eq]
        exact ⟨⟨⟨h1, h2⟩, h3⟩, ih (k + 1) (by omega) h4⟩

theorem Mem.wf_write (bound : Nat) (m : Mem) (a : Nat) (v : Byte) (ha : a < bound) (hw : m.wf bound = true) :
    (m.write a v).wf bound = true := Mem.wfFrom_write bound m 0 a v (Nat.zero_le a) ha hw

end Sys2Proof.Machine
end

