-- ==== Sys2Proof/Laws/Bus.lean ====
section
/-! SUPPORT. The laws of the bus: what a read and a write can change, that no read changes a memory byte, that a write changes at
most the one cell it stores to, and that both keep every memory canonical. -/

namespace Sys2Proof.Machine

/-! ## Cells -/

/-- A store into a cell leaves every other cell alone. -/
theorem Bus.cellByte_setCell_other (b : Bus) (c k : CellId) (v : Byte) (h : k ≠ c) :
    (b.setCell c v).cellByte k = b.cellByte k := by
  obtain ⟨r, l⟩ := c
  obtain ⟨q, m⟩ := k
  by_cases hr : q = r
  · subst hr
    have hm : m ≠ l := fun e => h (by rw [e])
    cases q <;> simp [Bus.setCell, Bus.cellByte, Mem.read_write_other _ _ _ _ hm]
  · cases r <;> cases q <;> first | rfl | exact absurd rfl hr

/-- A store into a cell other than ROM is read back. -/
theorem Bus.cellByte_setCell_same (b : Bus) (c : CellId) (v : Byte) (hw : b.wf = true) (hr : c.1 ≠ .rom) :
    (b.setCell c v).cellByte c = v := by
  obtain ⟨r, l⟩ := c
  simp only [Bus.wf, Bool.and_eq_true] at hw
  obtain ⟨⟨⟨⟨h0, h1⟩, h2⟩, h3⟩, _⟩ := hw
  cases r
  · exact Mem.read_write_same _ _ _ _ h0
  · exact Mem.read_write_same _ _ _ _ h1
  · exact Mem.read_write_same _ _ _ _ h2
  · exact Mem.read_write_same _ _ _ _ h3
  · exact absurd rfl hr

@[simp] theorem Bus.setCell_cart (b : Bus) (c : CellId) (v : Byte) : (b.setCell c v).cart = b.cart := by
  obtain ⟨r, l⟩ := c; cases r <;> rfl
@[simp] theorem Bus.setCell_latch (b : Bus) (c : CellId) (v : Byte) : (b.setCell c v).latch = b.latch := by
  obtain ⟨r, l⟩ := c; cases r <;> rfl
@[simp] theorem Bus.setCell_wmAddr (b : Bus) (c : CellId) (v : Byte) : (b.setCell c v).wmAddr = b.wmAddr := by
  obtain ⟨r, l⟩ := c; cases r <;> rfl
@[simp] theorem Bus.setCell_extCount (b : Bus) (c : CellId) (v : Byte) : (b.setCell c v).extCount = b.extCount := by
  obtain ⟨r, l⟩ := c; cases r <;> rfl

/-- The number of bytes of a region; ROM is bounded by its cartridge, not here. -/
def Region.fits (r : Region) (l : Nat) : Prop :=
  match r with
  | .wram => l < 0x20000
  | .sram1 => l < 0x70000
  | .sram2 => l < 0x10000
  | .sramH => l < 0x40000
  | .rom => True

/-- A store into a cell of its region keeps every memory canonical. -/
theorem Bus.wf_setCell (b : Bus) (c : CellId) (v : Byte) (hc : c.1.fits c.2) (hw : b.wf = true) :
    (b.setCell c v).wf = true := by
  obtain ⟨r, l⟩ := c
  simp only [Bus.wf, Bool.and_eq_true] at hw ⊢
  obtain ⟨⟨⟨⟨h0, h1⟩, h2⟩, h3⟩, h4⟩ := hw
  cases r
  · exact ⟨⟨⟨⟨Mem.wf_write _ _ _ _ hc h0, h1⟩, h2⟩, h3⟩, h4⟩
  · exact ⟨⟨⟨⟨h0, Mem.wf_write _ _ _ _ hc h1⟩, h2⟩, h3⟩, h4⟩
  · exact ⟨⟨⟨⟨h0, h1⟩, Mem.wf_write _ _ _ _ hc h2⟩, h3⟩, h4⟩
  · exact ⟨⟨⟨⟨h0, h1⟩, h2⟩, Mem.wf_write _ _ _ _ hc h3⟩, h4⟩
  · exact ⟨⟨⟨⟨h0, h1⟩, h2⟩, h3⟩, h4⟩

/-! ## Where addresses lie -/

theorem busALocal_lt (a : Addr) (l : Nat) (h : busALocal a = some l) : l < 0x20000 := by
  unfold busALocal at h
  split at h
  · injection h with h; omega
  · split at h
    · injection h with h; omega
    · cases h

/-- The cells of the cartridge lie in their regions (R103, R105, R109, R112). -/
theorem Cartridge.cell_fits (cart : Cartridge) (a : Addr) (c : CellId) (h : cart.cell a = some c) : c.1.fits c.2 := by
  have ho : (offsetOf a).toNat < 0x10000 := (offsetOf a).isLt
  have hb : (bankOf a).toNat < 0x100 := (bankOf a).isLt
  unfold Cartridge.cell convertToLocalAddr at h
  generalize (offsetOf a).toNat = o at h ho
  generalize (bankOf a).toNat = b at h hb
  have hl : ∀ t l, loRomLocal b o = (t, l) →
      (t = .mode20Sram1 → l < 0x70000) ∧ (t = .mode20Sram2 → l < 0x10000) ∧ t ≠ .mode21Sram := by
    intro t l e
    unfold loRomLocal at e
    split at e
    · split at e <;> (cases e; simp)
    · split at e
      · cases e; simp
      · split at e
        · simp only at e
          split at e
          · simp only [Prod.mk.injEq] at e
            obtain ⟨rfl, rfl⟩ := e
            refine ⟨fun _ => ?_, by simp, by simp⟩
            split <;> omega
          · simp only [Prod.mk.injEq] at e
            obtain ⟨rfl, rfl⟩ := e
            simp
        · split at e
          · split at e
            · cases e
              refine ⟨by simp, fun _ => by omega, by simp⟩
            · cases e; simp
          · cases e; simp
  have hh : ∀ t l, hiRomLocal b o = (t, l) → (t = .mode21Sram → l < 0x40000) ∧ t ≠ .mode20Sram1 ∧ t ≠ .mode20Sram2 := by
    intro t l e
    unfold hiRomLocal at e
    split at e
    · split at e
      · cases e; simp
      · split at e
        · cases e
          refine ⟨fun _ => by omega, by simp, by simp⟩
        · cases e; simp
    · split at e <;> (cases e; simp)
  cases hlo : cart.isLoRom
  · simp only [hlo, Bool.false_eq_true, if_false] at h
    rcases hx : hiRomLocal b o with ⟨t, l⟩
    rw [hx] at h
    obtain ⟨p1, p2, p3⟩ := hh t l hx
    cases t <;> simp at h p1 p2 p3
    · obtain ⟨_, h⟩ := h; subst h; trivial
    · subst h; exact p1
  · simp only [hlo, if_true] at h
    rcases hx : loRomLocal b o with ⟨t, l⟩
    rw [hx] at h
    obtain ⟨p1, p2, p3⟩ := hl t l hx
    cases t <;> simp at h p1 p2 p3
    · obtain ⟨_, h⟩ := h; subst h; trivial
    · subst h; exact p1
    · subst h; exact p2

theorem Bus.cartCell_fits (b : Bus) (a : Addr) (c : CellId) (h : b.cartCell a = some c) : c.1.fits c.2 := by
  unfold Bus.cartCell at h
  cases hc : b.cart with
  | none => simp [hc] at h
  | some cart => exact cart.cell_fits a c (by simpa [hc] using h)

/-! ## Reads -/

/-- A port read changes WmAddr at most. -/
theorem Bus.portRead_eq (r nd : Bool) (port : Word) (b : Bus) :
    ∃ w, (b.portRead r nd port).2 = { b with wmAddr := w } := by
  unfold Bus.portRead
  split
  · cases nd
    · exact ⟨b.wmAddr + 1, rfl⟩
    · exact ⟨b.wmAddr, rfl⟩
  · split
    · exact ⟨b.wmAddr, rfl⟩
    · split
      · exact ⟨b.wmAddr, rfl⟩
      · split <;> exact ⟨b.wmAddr, rfl⟩

/-- A device read changes WmAddr and the external history at most. -/
theorem Bus.deviceRead_eq (r nd : Bool) (a : Addr) (b : Bus) :
    ∃ w n, (b.deviceRead r nd a).2 = { b with wmAddr := w, extCount := n } := by
  unfold Bus.deviceRead
  cases getTarget a
  · exact ⟨b.wmAddr, b.extCount, rfl⟩
  · obtain ⟨w, h⟩ := Bus.portRead_eq r nd (offsetOf a) b
    exact ⟨w, b.extCount, h⟩
  · exact ⟨b.wmAddr, b.extCount, rfl⟩
  · exact ⟨b.wmAddr, b.extCount + 1, rfl⟩
  · exact ⟨b.wmAddr, b.extCount, rfl⟩

/-- A read changes the latch, WmAddr and the external history at most. -/
theorem Bus.read_eq (r nd : Bool) (a : Addr) (b : Bus) :
    ∃ l w n, (b.read r nd a).2 = { b with latch := l, wmAddr := w, extCount := n } := by
  obtain ⟨w, n, h⟩ := Bus.deviceRead_eq r nd a b
  unfold Bus.read
  generalize Bus.deviceRead r nd a b = d at h
  obtain ⟨v, d⟩ := d
  simp only at h
  subst h
  cases v with
  | none => exact ⟨b.latch, w, n, rfl⟩
  | some v => exact ⟨v, w, n, rfl⟩

/-- After any read, serviced or not, the latch holds the byte read (R70). -/
theorem Bus.read_latch (r nd : Bool) (a : Addr) (b : Bus) : (b.read r nd a).2.latch = (b.read r nd a).1 := by
  unfold Bus.read
  generalize Bus.deviceRead r nd a b = d
  obtain ⟨v, d⟩ := d
  cases v <;> rfl

@[simp] theorem Bus.read_cart (r nd : Bool) (a : Addr) (b : Bus) : (b.read r nd a).2.cart = b.cart := by
  obtain ⟨_, _, _, h⟩ := Bus.read_eq r nd a b
  rw [h]
@[simp] theorem Bus.read_wram (r nd : Bool) (a : Addr) (b : Bus) : (b.read r nd a).2.wram = b.wram := by
  obtain ⟨_, _, _, h⟩ := Bus.read_eq r nd a b
  rw [h]
@[simp] theorem Bus.read_sram1 (r nd : Bool) (a : Addr) (b : Bus) : (b.read r nd a).2.sram1 = b.sram1 := by
  obtain ⟨_, _, _, h⟩ := Bus.read_eq r nd a b
  rw [h]
@[simp] theorem Bus.read_sram2 (r nd : Bool) (a : Addr) (b : Bus) : (b.read r nd a).2.sram2 = b.sram2 := by
  obtain ⟨_, _, _, h⟩ := Bus.read_eq r nd a b
  rw [h]
@[simp] theorem Bus.read_sramH (r nd : Bool) (a : Addr) (b : Bus) : (b.read r nd a).2.sramH = b.sramH := by
  obtain ⟨_, _, _, h⟩ := Bus.read_eq r nd a b
  rw [h]

/-- No read changes a memory byte (R116). -/
@[simp] theorem Bus.read_cellByte (r nd : Bool) (a : Addr) (b : Bus) (c : CellId) :
    (b.read r nd a).2.cellByte c = b.cellByte c := by
  obtain ⟨_, _, _, h⟩ := Bus.read_eq r nd a b
  rw [h]
  rfl

@[simp] theorem Bus.read_wf (r nd : Bool) (a : Addr) (b : Bus) : (b.read r nd a).2.wf = b.wf := by
  obtain ⟨_, _, _, h⟩ := Bus.read_eq r nd a b
  rw [h]
  rfl

/-! ## Writes -/

theorem Bus.portWrite_cellByte (port : Word) (v : Byte) (b : Bus) (c : CellId)
    (h : port = 0x2180 → c ≠ (.wram, b.wmAddr.toNat)) : (b.portWrite port v).cellByte c = b.cellByte c := by
  unfold Bus.portWrite
  split
  · rename_i hp
    exact Bus.cellByte_setCell_other b _ c v (h hp)
  · split
    · rfl
    · split <;> rfl

/-- A write changes at most the cell it stores to. -/
theorem Bus.write_cellByte_other (a : Addr) (v : Byte) (b : Bus) (c : CellId) (h : b.storeCell a ≠ some c) :
    (b.write a v).cellByte c = b.cellByte c := by
  unfold Bus.storeCell Bus.locate at h
  unfold Bus.write Bus.deviceWrite
  cases ht : getTarget a
  · simp only [ht] at h ⊢
    cases hl : busALocal a with
    | none => rfl
    | some l =>
      simp only [hl, Option.map_some, Option.bind_some] at h
      exact Bus.cellByte_setCell_other b _ c v (fun e => h (by simp [e]))
  · simp only [ht] at h ⊢
    refine Bus.portWrite_cellByte _ v b c (fun hp e => h ?_)
    simp [hp, e]
  · simp only [ht] at h ⊢
    cases hl : b.cartCell a with
    | none => rfl
    | some k =>
      simp only [hl, Option.bind_some] at h
      by_cases hr : k.1 = .rom
      · obtain ⟨q, l⟩ := k
        simp only at hr
        subst hr
        rfl
      · refine Bus.cellByte_setCell_other b _ c v (fun e => h ?_)
        simp [hr, e]
  · rfl
  · rfl

/-- In canonical memories a write stores its byte in the cell it stores to. -/
theorem Bus.write_cellByte_same (a : Addr) (v : Byte) (b : Bus) (c : CellId) (hw : b.wf = true)
    (h : b.storeCell a = some c) : (b.write a v).cellByte c = v := by
  unfold Bus.storeCell Bus.locate at h
  unfold Bus.write Bus.deviceWrite
  cases ht : getTarget a
  · simp only [ht] at h ⊢
    cases hl : busALocal a with
    | none => simp [hl] at h
    | some l =>
      simp [hl] at h
      subst h
      exact Bus.cellByte_setCell_same b (.wram, l) v hw (by simp)
  · simp only [ht] at h ⊢
    by_cases hp : offsetOf a = 0x2180
    · simp [hp] at h
      subst h
      simp only [Bus.portWrite, hp, if_true]
      exact Bus.cellByte_setCell_same b (.wram, b.wmAddr.toNat) v hw (by simp)
    · rw [if_neg hp] at h
      cases h
  · simp only [ht] at h ⊢
    cases hl : b.cartCell a with
    | none => simp [hl] at h
    | some k =>
      simp only [hl, Option.bind_some] at h
      split at h
      · cases h
      · rename_i hr
        injection h with h
        subst h
        exact Bus.cellByte_setCell_same b _ v hw hr
  · simp [ht] at h
  · simp [ht] at h

@[simp] theorem Bus.write_cart (a : Addr) (v : Byte) (b : Bus) : (b.write a v).cart = b.cart := by
  unfold Bus.write Bus.deviceWrite
  cases getTarget a
  · simp only
    cases busALocal a <;> simp
  · simp only [Bus.portWrite]
    split
    · simp
    · split
      · rfl
      · split <;> rfl
  · simp only
    cases b.cartCell a <;> simp
  · rfl
  · rfl

/-- A write leaves the open-bus latch alone (R70). -/
@[simp] theorem Bus.write_latch (a : Addr) (v : Byte) (b : Bus) : (b.write a v).latch = b.latch := by
  unfold Bus.write Bus.deviceWrite
  cases getTarget a
  · simp only
    cases busALocal a <;> simp
  · simp only [Bus.portWrite]
    split
    · simp
    · split
      · rfl
      · split <;> rfl
  · simp only
    cases b.cartCell a <;> simp
  · rfl
  · rfl

/-- A write keeps every memory canonical. -/
theorem Bus.write_wf (a : Addr) (v : Byte) (b : Bus) (hw : b.wf = true) : (b.write a v).wf = true := by
  unfold Bus.write Bus.deviceWrite
  cases getTarget a
  · simp only
    cases hl : busALocal a with
    | none => exact hw
    | some l => exact Bus.wf_setCell b (.wram, l) v (busALocal_lt a l hl) hw
  · simp only [Bus.portWrite]
    split
    · exact Bus.wf_setCell b (.wram, b.wmAddr.toNat) v b.wmAddr.isLt hw
    · split
      · exact hw
      · split <;> exact hw
  · simp only
    cases hl : b.cartCell a with
    | none => exact hw
    | some c => exact Bus.wf_setCell b c v (b.cartCell_fits a c hl) hw
  · exact hw
  · exact hw

/-! ## Buffered writes and reset -/

/-- A buffered WRAM write inside the array keeps every memory canonical. -/
theorem workRamWriteFrom_wf (buf : List Byte) (l : Nat) (b : Bus) (h : l + buf.length ≤ 0x20000) (hw : b.wf = true) :
    (workRamWriteFrom l buf b).wf = true := by
  induction buf generalizing l b with
  | nil => exact hw
  | cons v rest ih =>
    simp only [List.length_cons] at h
    exact ih (l + 1) _ (by omega) (Bus.wf_setCell b (.wram, l) v (show l < 0x20000 by omega) hw)

/-- A buffered cartridge write keeps every memory canonical. -/
theorem cartWriteN_wf (buf : List Byte) (a : Addr) (b : Bus) (hw : b.wf = true) : (cartWriteN a buf b).2.wf = true := by
  induction buf generalizing a b with
  | nil => exact hw
  | cons v rest ih =>
    unfold cartWriteN
    split
    · rename_i c hc
      exact ih (a + 1) _ (Bus.wf_setCell b c v (Bus.cartCell_fits b a c hc) hw)
    · exact ih (a + 1) b hw

/-- The memories right after reset are canonical. -/
theorem State.reset_bus_wf : State.reset.bus.wf = true := by decide

end Sys2Proof.Machine
end

