-- ==== Sys2Proof/Laws/State.lean ====
section
/-! SUPPORT. Field by field, what each update of the state and of the register file leaves: one lemma per field, so that no later
proof unfolds a record update. -/

namespace Sys2Proof.Machine

/-! ## Updates of the state -/

@[simp] theorem State.mapCpu_cpu (f : Cpu → Cpu) (s : State) : (s.mapCpu f).cpu = f s.cpu := rfl
@[simp] theorem State.mapCpu_bus (f : Cpu → Cpu) (s : State) : (s.mapCpu f).bus = s.bus := rfl
@[simp] theorem State.mapCpu_run (f : Cpu → Cpu) (s : State) : (s.mapCpu f).run = s.run := rfl
@[simp] theorem State.mapCpu_nmiPending (f : Cpu → Cpu) (s : State) : (s.mapCpu f).nmiPending = s.nmiPending := rfl
@[simp] theorem State.mapCpu_nmiPrev (f : Cpu → Cpu) (s : State) : (s.mapCpu f).nmiPrev = s.nmiPrev := rfl
@[simp] theorem State.mapCpu_cycles (f : Cpu → Cpu) (s : State) : (s.mapCpu f).cycles = s.cycles := rfl
@[simp] theorem State.mapCpu_iBefore (f : Cpu → Cpu) (s : State) : (s.mapCpu f).iBefore = s.iBefore := rfl
@[simp] theorem State.mapCpu_draws (f : Cpu → Cpu) (s : State) : (s.mapCpu f).draws = s.draws := rfl
@[simp] theorem State.mapCpu_marks (f : Cpu → Cpu) (s : State) : (s.mapCpu f).marks = s.marks := rfl
@[simp] theorem State.mapCpu_params (f : Cpu → Cpu) (s : State) : (s.mapCpu f).params = s.params := rfl
@[simp] theorem State.mapCpu_inputs (f : Cpu → Cpu) (s : State) : (s.mapCpu f).inputs = s.inputs := rfl

@[simp] theorem State.read8_cpu (a : Addr) (s : State) : ((s.read8 a).2).cpu = s.cpu := rfl
@[simp] theorem State.read8_bus (a : Addr) (s : State) : ((s.read8 a).2).bus = (s.bus.read s.params.wmaddReadable false a).2 := rfl
@[simp] theorem State.read8_run (a : Addr) (s : State) : ((s.read8 a).2).run = s.run := rfl
@[simp] theorem State.read8_nmiPending (a : Addr) (s : State) : ((s.read8 a).2).nmiPending = s.nmiPending := rfl
@[simp] theorem State.read8_nmiPrev (a : Addr) (s : State) : ((s.read8 a).2).nmiPrev = s.nmiPrev := rfl
@[simp] theorem State.read8_cycles (a : Addr) (s : State) : ((s.read8 a).2).cycles = s.cycles := rfl
@[simp] theorem State.read8_iBefore (a : Addr) (s : State) : ((s.read8 a).2).iBefore = s.iBefore := rfl
@[simp] theorem State.read8_draws (a : Addr) (s : State) : ((s.read8 a).2).draws = s.draws := rfl
@[simp] theorem State.read8_marks (a : Addr) (s : State) : ((s.read8 a).2).marks = s.marksAfter (s.bus.readMarks s.params.wmaddReadable a) := rfl
@[simp] theorem State.read8_params (a : Addr) (s : State) : ((s.read8 a).2).params = s.params := rfl
@[simp] theorem State.read8_inputs (a : Addr) (s : State) : ((s.read8 a).2).inputs = s.inputs := rfl

@[simp] theorem State.read8_value (a : Addr) (s : State) : (s.read8 a).1 = (s.bus.read s.params.wmaddReadable false a).1 := rfl

@[simp] theorem State.write8_cpu (a : Addr) (v : Byte) (s : State) : (s.write8 a v).cpu = s.cpu := rfl
@[simp] theorem State.write8_bus (a : Addr) (v : Byte) (s : State) : (s.write8 a v).bus = s.bus.write a v := rfl
@[simp] theorem State.write8_run (a : Addr) (v : Byte) (s : State) : (s.write8 a v).run = s.run := rfl
@[simp] theorem State.write8_nmiPending (a : Addr) (v : Byte) (s : State) : (s.write8 a v).nmiPending = s.nmiPending := rfl
@[simp] theorem State.write8_nmiPrev (a : Addr) (v : Byte) (s : State) : (s.write8 a v).nmiPrev = s.nmiPrev := rfl
@[simp] theorem State.write8_cycles (a : Addr) (v : Byte) (s : State) : (s.write8 a v).cycles = s.cycles := rfl
@[simp] theorem State.write8_iBefore (a : Addr) (v : Byte) (s : State) : (s.write8 a v).iBefore = s.iBefore := rfl
@[simp] theorem State.write8_draws (a : Addr) (v : Byte) (s : State) : (s.write8 a v).draws = s.draws := rfl
@[simp] theorem State.write8_marks (a : Addr) (v : Byte) (s : State) : (s.write8 a v).marks = s.marksAfter (s.bus.writeMarks a) := rfl
@[simp] theorem State.write8_params (a : Addr) (v : Byte) (s : State) : (s.write8 a v).params = s.params := rfl
@[simp] theorem State.write8_inputs (a : Addr) (v : Byte) (s : State) : (s.write8 a v).inputs = s.inputs := rfl

@[simp] theorem State.push8_cpu (nw : Bool) (v : Byte) (s : State) : (s.push8 nw v).cpu = s.cpu.stackDown nw := rfl
@[simp] theorem State.push8_bus (nw : Bool) (v : Byte) (s : State) : (s.push8 nw v).bus = s.bus.write (addr24 0 s.cpu.s) v := rfl
@[simp] theorem State.push8_run (nw : Bool) (v : Byte) (s : State) : (s.push8 nw v).run = s.run := rfl
@[simp] theorem State.push8_nmiPending (nw : Bool) (v : Byte) (s : State) : (s.push8 nw v).nmiPending = s.nmiPending := rfl
@[simp] theorem State.push8_nmiPrev (nw : Bool) (v : Byte) (s : State) : (s.push8 nw v).nmiPrev = s.nmiPrev := rfl
@[simp] theorem State.push8_cycles (nw : Bool) (v : Byte) (s : State) : (s.push8 nw v).cycles = s.cycles := rfl
@[simp] theorem State.push8_iBefore (nw : Bool) (v : Byte) (s : State) : (s.push8 nw v).iBefore = s.iBefore := rfl
@[simp] theorem State.push8_draws (nw : Bool) (v : Byte) (s : State) : (s.push8 nw v).draws = s.draws := rfl
@[simp] theorem State.push8_marks (nw : Bool) (v : Byte) (s : State) : (s.push8 nw v).marks = s.marksAfter (s.bus.writeMarks (addr24 0 s.cpu.s)) := rfl
@[simp] theorem State.push8_params (nw : Bool) (v : Byte) (s : State) : (s.push8 nw v).params = s.params := rfl
@[simp] theorem State.push8_inputs (nw : Bool) (v : Byte) (s : State) : (s.push8 nw v).inputs = s.inputs := rfl

@[simp] theorem State.push16_cpu (nw : Bool) (v : Word) (s : State) : (s.push16 nw v).cpu = (s.cpu.stackDown nw).stackDown nw := rfl
@[simp] theorem State.push16_run (nw : Bool) (v : Word) (s : State) : (s.push16 nw v).run = s.run := rfl
@[simp] theorem State.push16_nmiPending (nw : Bool) (v : Word) (s : State) : (s.push16 nw v).nmiPending = s.nmiPending := rfl
@[simp] theorem State.push16_nmiPrev (nw : Bool) (v : Word) (s : State) : (s.push16 nw v).nmiPrev = s.nmiPrev := rfl
@[simp] theorem State.push16_cycles (nw : Bool) (v : Word) (s : State) : (s.push16 nw v).cycles = s.cycles := rfl
@[simp] theorem State.push16_iBefore (nw : Bool) (v : Word) (s : State) : (s.push16 nw v).iBefore = s.iBefore := rfl
@[simp] theorem State.push16_draws (nw : Bool) (v : Word) (s : State) : (s.push16 nw v).draws = s.draws := rfl
@[simp] theorem State.push16_params (nw : Bool) (v : Word) (s : State) : (s.push16 nw v).params = s.params := rfl
@[simp] theorem State.push16_inputs (nw : Bool) (v : Word) (s : State) : (s.push16 nw v).inputs = s.inputs := rfl

@[simp] theorem State.pull8_cpu (nw : Bool) (s : State) : ((s.pull8 nw).2).cpu = s.cpu.stackUp nw := rfl
@[simp] theorem State.pull8_run (nw : Bool) (s : State) : ((s.pull8 nw).2).run = s.run := rfl
@[simp] theorem State.pull8_nmiPending (nw : Bool) (s : State) : ((s.pull8 nw).2).nmiPending = s.nmiPending := rfl
@[simp] theorem State.pull8_nmiPrev (nw : Bool) (s : State) : ((s.pull8 nw).2).nmiPrev = s.nmiPrev := rfl
@[simp] theorem State.pull8_cycles (nw : Bool) (s : State) : ((s.pull8 nw).2).cycles = s.cycles := rfl
@[simp] theorem State.pull8_iBefore (nw : Bool) (s : State) : ((s.pull8 nw).2).iBefore = s.iBefore := rfl
@[simp] theorem State.pull8_draws (nw : Bool) (s : State) : ((s.pull8 nw).2).draws = s.draws := rfl
@[simp] theorem State.pull8_params (nw : Bool) (s : State) : ((s.pull8 nw).2).params = s.params := rfl
@[simp] theorem State.pull8_inputs (nw : Bool) (s : State) : ((s.pull8 nw).2).inputs = s.inputs := rfl

@[simp] theorem State.pull16_cpu (nw : Bool) (s : State) : ((s.pull16 nw).2).cpu = (s.cpu.stackUp nw).stackUp nw := rfl
@[simp] theorem State.pull16_run (nw : Bool) (s : State) : ((s.pull16 nw).2).run = s.run := rfl
@[simp] theorem State.pull16_nmiPending (nw : Bool) (s : State) : ((s.pull16 nw).2).nmiPending = s.nmiPending := rfl
@[simp] theorem State.pull16_nmiPrev (nw : Bool) (s : State) : ((s.pull16 nw).2).nmiPrev = s.nmiPrev := rfl
@[simp] theorem State.pull16_cycles (nw : Bool) (s : State) : ((s.pull16 nw).2).cycles = s.cycles := rfl
@[simp] theorem State.pull16_iBefore (nw : Bool) (s : State) : ((s.pull16 nw).2).iBefore = s.iBefore := rfl
@[simp] theorem State.pull16_draws (nw : Bool) (s : State) : ((s.pull16 nw).2).draws = s.draws := rfl
@[simp] theorem State.pull16_params (nw : Bool) (s : State) : ((s.pull16 nw).2).params = s.params := rfl
@[simp] theorem State.pull16_inputs (nw : Bool) (s : State) : ((s.pull16 nw).2).inputs = s.inputs := rfl

@[simp] theorem State.charge_cpu (op : Byte) (pc tk : Bool) (tg : Word) (s0 s : State) : (State.charge op pc tk tg s0 s).cpu = s.cpu := rfl
@[simp] theorem State.charge_bus (op : Byte) (pc tk : Bool) (tg : Word) (s0 s : State) : (State.charge op pc tk tg s0 s).bus = s.bus := rfl
@[simp] theorem State.charge_run (op : Byte) (pc tk : Bool) (tg : Word) (s0 s : State) : (State.charge op pc tk tg s0 s).run = s.run := rfl
@[simp] theorem State.charge_nmiPending (op : Byte) (pc tk : Bool) (tg : Word) (s0 s : State) : (State.charge op pc tk tg s0 s).nmiPending = s.nmiPending := rfl
@[simp] theorem State.charge_nmiPrev (op : Byte) (pc tk : Bool) (tg : Word) (s0 s : State) : (State.charge op pc tk tg s0 s).nmiPrev = s.nmiPrev := rfl
@[simp] theorem State.charge_iBefore (op : Byte) (pc tk : Bool) (tg : Word) (s0 s : State) : (State.charge op pc tk tg s0 s).iBefore = s.iBefore := rfl
@[simp] theorem State.charge_draws (op : Byte) (pc tk : Bool) (tg : Word) (s0 s : State) : (State.charge op pc tk tg s0 s).draws = s.draws := rfl
@[simp] theorem State.charge_marks (op : Byte) (pc tk : Bool) (tg : Word) (s0 s : State) : (State.charge op pc tk tg s0 s).marks = s.marks := rfl
@[simp] theorem State.charge_params (op : Byte) (pc tk : Bool) (tg : Word) (s0 s : State) : (State.charge op pc tk tg s0 s).params = s.params := rfl
@[simp] theorem State.charge_inputs (op : Byte) (pc tk : Bool) (tg : Word) (s0 s : State) : (State.charge op pc tk tg s0 s).inputs = s.inputs := rfl

@[simp] theorem State.retire_cpu (op : Byte) (pc : Bool) (s0 s : State) : (State.retire op pc s0 s).cpu = { s.cpu with pc := nextPc op s0.cpu } := rfl
@[simp] theorem State.retire_bus (op : Byte) (pc : Bool) (s0 s : State) : (State.retire op pc s0 s).bus = s.bus := rfl
@[simp] theorem State.retire_run (op : Byte) (pc : Bool) (s0 s : State) : (State.retire op pc s0 s).run = s.run := rfl
@[simp] theorem State.retire_nmiPending (op : Byte) (pc : Bool) (s0 s : State) : (State.retire op pc s0 s).nmiPending = s.nmiPending := rfl
@[simp] theorem State.retire_nmiPrev (op : Byte) (pc : Bool) (s0 s : State) : (State.retire op pc s0 s).nmiPrev = s.nmiPrev := rfl
@[simp] theorem State.retire_iBefore (op : Byte) (pc : Bool) (s0 s : State) : (State.retire op pc s0 s).iBefore = s.iBefore := rfl
@[simp] theorem State.retire_draws (op : Byte) (pc : Bool) (s0 s : State) : (State.retire op pc s0 s).draws = s.draws := rfl
@[simp] theorem State.retire_marks (op : Byte) (pc : Bool) (s0 s : State) : (State.retire op pc s0 s).marks = s.marks := rfl
@[simp] theorem State.retire_params (op : Byte) (pc : Bool) (s0 s : State) : (State.retire op pc s0 s).params = s.params := rfl
@[simp] theorem State.retire_inputs (op : Byte) (pc : Bool) (s0 s : State) : (State.retire op pc s0 s).inputs = s.inputs := rfl

@[simp] theorem State.retireAt_cpu (op : Byte) (tg : Word) (s0 s : State) : (State.retireAt op tg s0 s).cpu = { s.cpu with pc := tg } := rfl
@[simp] theorem State.retireAt_bus (op : Byte) (tg : Word) (s0 s : State) : (State.retireAt op tg s0 s).bus = s.bus := rfl
@[simp] theorem State.retireAt_run (op : Byte) (tg : Word) (s0 s : State) : (State.retireAt op tg s0 s).run = s.run := rfl
@[simp] theorem State.retireAt_nmiPending (op : Byte) (tg : Word) (s0 s : State) : (State.retireAt op tg s0 s).nmiPending = s.nmiPending := rfl
@[simp] theorem State.retireAt_nmiPrev (op : Byte) (tg : Word) (s0 s : State) : (State.retireAt op tg s0 s).nmiPrev = s.nmiPrev := rfl
@[simp] theorem State.retireAt_iBefore (op : Byte) (tg : Word) (s0 s : State) : (State.retireAt op tg s0 s).iBefore = s.iBefore := rfl
@[simp] theorem State.retireAt_draws (op : Byte) (tg : Word) (s0 s : State) : (State.retireAt op tg s0 s).draws = s.draws := rfl
@[simp] theorem State.retireAt_marks (op : Byte) (tg : Word) (s0 s : State) : (State.retireAt op tg s0 s).marks = s.marks := rfl
@[simp] theorem State.retireAt_params (op : Byte) (tg : Word) (s0 s : State) : (State.retireAt op tg s0 s).params = s.params := rfl
@[simp] theorem State.retireAt_inputs (op : Byte) (tg : Word) (s0 s : State) : (State.retireAt op tg s0 s).inputs = s.inputs := rfl

@[simp] theorem State.retireFar_cpu (op : Byte) (tg : Addr) (s0 s : State) : (State.retireFar op tg s0 s).cpu = { s.cpu with pc := offsetOf tg, pb := bankOf tg } := rfl
@[simp] theorem State.retireFar_bus (op : Byte) (tg : Addr) (s0 s : State) : (State.retireFar op tg s0 s).bus = s.bus := rfl
@[simp] theorem State.retireFar_run (op : Byte) (tg : Addr) (s0 s : State) : (State.retireFar op tg s0 s).run = s.run := rfl
@[simp] theorem State.retireFar_nmiPending (op : Byte) (tg : Addr) (s0 s : State) : (State.retireFar op tg s0 s).nmiPending = s.nmiPending := rfl
@[simp] theorem State.retireFar_nmiPrev (op : Byte) (tg : Addr) (s0 s : State) : (State.retireFar op tg s0 s).nmiPrev = s.nmiPrev := rfl
@[simp] theorem State.retireFar_iBefore (op : Byte) (tg : Addr) (s0 s : State) : (State.retireFar op tg s0 s).iBefore = s.iBefore := rfl
@[simp] theorem State.retireFar_draws (op : Byte) (tg : Addr) (s0 s : State) : (State.retireFar op tg s0 s).draws = s.draws := rfl
@[simp] theorem State.retireFar_marks (op : Byte) (tg : Addr) (s0 s : State) : (State.retireFar op tg s0 s).marks = s.marks := rfl
@[simp] theorem State.retireFar_params (op : Byte) (tg : Addr) (s0 s : State) : (State.retireFar op tg s0 s).params = s.params := rfl
@[simp] theorem State.retireFar_inputs (op : Byte) (tg : Addr) (s0 s : State) : (State.retireFar op tg s0 s).inputs = s.inputs := rfl

@[simp] theorem State.markMask_cpu (s0 s : State) : (State.markMask s0 s).cpu = s.cpu := rfl
@[simp] theorem State.markMask_bus (s0 s : State) : (State.markMask s0 s).bus = s.bus := rfl
@[simp] theorem State.markMask_run (s0 s : State) : (State.markMask s0 s).run = s.run := rfl
@[simp] theorem State.markMask_nmiPending (s0 s : State) : (State.markMask s0 s).nmiPending = s.nmiPending := rfl
@[simp] theorem State.markMask_nmiPrev (s0 s : State) : (State.markMask s0 s).nmiPrev = s.nmiPrev := rfl
@[simp] theorem State.markMask_cycles (s0 s : State) : (State.markMask s0 s).cycles = s.cycles := rfl
@[simp] theorem State.markMask_iBefore (s0 s : State) : (State.markMask s0 s).iBefore = some s0.cpu.p.i := rfl
@[simp] theorem State.markMask_draws (s0 s : State) : (State.markMask s0 s).draws = s.draws := rfl
@[simp] theorem State.markMask_marks (s0 s : State) : (State.markMask s0 s).marks = s.marks := rfl
@[simp] theorem State.markMask_params (s0 s : State) : (State.markMask s0 s).params = s.params := rfl
@[simp] theorem State.markMask_inputs (s0 s : State) : (State.markMask s0 s).inputs = s.inputs := rfl

@[simp] theorem State.note_cpu (f : Marks → Marks) (s : State) : (s.note f).cpu = s.cpu := rfl
@[simp] theorem State.note_bus (f : Marks → Marks) (s : State) : (s.note f).bus = s.bus := rfl
@[simp] theorem State.note_run (f : Marks → Marks) (s : State) : (s.note f).run = s.run := rfl
@[simp] theorem State.note_nmiPending (f : Marks → Marks) (s : State) : (s.note f).nmiPending = s.nmiPending := rfl
@[simp] theorem State.note_nmiPrev (f : Marks → Marks) (s : State) : (s.note f).nmiPrev = s.nmiPrev := rfl
@[simp] theorem State.note_cycles (f : Marks → Marks) (s : State) : (s.note f).cycles = s.cycles := rfl
@[simp] theorem State.note_iBefore (f : Marks → Marks) (s : State) : (s.note f).iBefore = s.iBefore := rfl
@[simp] theorem State.note_draws (f : Marks → Marks) (s : State) : (s.note f).draws = s.draws := rfl
@[simp] theorem State.note_marks (f : Marks → Marks) (s : State) : (s.note f).marks = s.marksAfter f := rfl
@[simp] theorem State.note_params (f : Marks → Marks) (s : State) : (s.note f).params = s.params := rfl
@[simp] theorem State.note_inputs (f : Marks → Marks) (s : State) : (s.note f).inputs = s.inputs := rfl

@[simp] theorem State.noteInstr_cpu (i : Instr) (s : State) : (s.noteInstr i).cpu = s.cpu := rfl
@[simp] theorem State.noteInstr_bus (i : Instr) (s : State) : (s.noteInstr i).bus = s.bus := rfl
@[simp] theorem State.noteInstr_run (i : Instr) (s : State) : (s.noteInstr i).run = s.run := rfl
@[simp] theorem State.noteInstr_nmiPending (i : Instr) (s : State) : (s.noteInstr i).nmiPending = s.nmiPending := rfl
@[simp] theorem State.noteInstr_nmiPrev (i : Instr) (s : State) : (s.noteInstr i).nmiPrev = s.nmiPrev := rfl
@[simp] theorem State.noteInstr_cycles (i : Instr) (s : State) : (s.noteInstr i).cycles = s.cycles := rfl
@[simp] theorem State.noteInstr_iBefore (i : Instr) (s : State) : (s.noteInstr i).iBefore = s.iBefore := rfl
@[simp] theorem State.noteInstr_draws (i : Instr) (s : State) : (s.noteInstr i).draws = s.draws := rfl
@[simp] theorem State.noteInstr_marks (i : Instr) (s : State) : (s.noteInstr i).marks = s.marksAfter fun m => (m.read (drawnReads i s.cpu)).write (drawnWrites i s.cpu) := rfl
@[simp] theorem State.noteInstr_params (i : Instr) (s : State) : (s.noteInstr i).params = s.params := rfl
@[simp] theorem State.noteInstr_inputs (i : Instr) (s : State) : (s.noteInstr i).inputs = s.inputs := rfl

@[simp] theorem State.latchNmi_cpu (line : Bool) (s : State) : (s.latchNmi line).cpu = s.cpu := rfl
@[simp] theorem State.latchNmi_bus (line : Bool) (s : State) : (s.latchNmi line).bus = s.bus := rfl
@[simp] theorem State.latchNmi_run (line : Bool) (s : State) : (s.latchNmi line).run = s.run := rfl
@[simp] theorem State.latchNmi_nmiPending (line : Bool) (s : State) : (s.latchNmi line).nmiPending = (s.nmiPending || (!s.nmiPrev && line)) := rfl
@[simp] theorem State.latchNmi_nmiPrev (line : Bool) (s : State) : (s.latchNmi line).nmiPrev = line := rfl
@[simp] theorem State.latchNmi_cycles (line : Bool) (s : State) : (s.latchNmi line).cycles = s.cycles := rfl
@[simp] theorem State.latchNmi_iBefore (line : Bool) (s : State) : (s.latchNmi line).iBefore = s.iBefore := rfl
@[simp] theorem State.latchNmi_draws (line : Bool) (s : State) : (s.latchNmi line).draws = s.draws := rfl
@[simp] theorem State.latchNmi_marks (line : Bool) (s : State) : (s.latchNmi line).marks = s.marks := rfl
@[simp] theorem State.latchNmi_params (line : Bool) (s : State) : (s.latchNmi line).params = s.params := rfl
@[simp] theorem State.latchNmi_inputs (line : Bool) (s : State) : (s.latchNmi line).inputs = s.inputs := rfl

@[simp] theorem State.leaveBoundary_cpu (s : State) : (s.leaveBoundary).cpu = s.cpu := rfl
@[simp] theorem State.leaveBoundary_bus (s : State) : (s.leaveBoundary).bus = s.bus := rfl
@[simp] theorem State.leaveBoundary_run (s : State) : (s.leaveBoundary).run = .running := rfl
@[simp] theorem State.leaveBoundary_nmiPending (s : State) : (s.leaveBoundary).nmiPending = s.nmiPending := rfl
@[simp] theorem State.leaveBoundary_nmiPrev (s : State) : (s.leaveBoundary).nmiPrev = s.nmiPrev := rfl
@[simp] theorem State.leaveBoundary_cycles (s : State) : (s.leaveBoundary).cycles = s.cycles := rfl
@[simp] theorem State.leaveBoundary_iBefore (s : State) : (s.leaveBoundary).iBefore = none := rfl
@[simp] theorem State.leaveBoundary_draws (s : State) : (s.leaveBoundary).draws = s.draws := rfl
@[simp] theorem State.leaveBoundary_marks (s : State) : (s.leaveBoundary).marks = s.marks := rfl
@[simp] theorem State.leaveBoundary_params (s : State) : (s.leaveBoundary).params = s.params := rfl
@[simp] theorem State.leaveBoundary_inputs (s : State) : (s.leaveBoundary).inputs = s.inputs := rfl

/-! ## Updates of the register file -/

@[simp] theorem Cpu.setA_x (w : Width) (v : Word) (c : Cpu) : (c.setA w v).x = c.x := by cases w <;> rfl
@[simp] theorem Cpu.setA_y (w : Width) (v : Word) (c : Cpu) : (c.setA w v).y = c.y := by cases w <;> rfl
@[simp] theorem Cpu.setA_s (w : Width) (v : Word) (c : Cpu) : (c.setA w v).s = c.s := by cases w <;> rfl
@[simp] theorem Cpu.setA_d (w : Width) (v : Word) (c : Cpu) : (c.setA w v).d = c.d := by cases w <;> rfl
@[simp] theorem Cpu.setA_db (w : Width) (v : Word) (c : Cpu) : (c.setA w v).db = c.db := by cases w <;> rfl
@[simp] theorem Cpu.setA_pb (w : Width) (v : Word) (c : Cpu) : (c.setA w v).pb = c.pb := by cases w <;> rfl
@[simp] theorem Cpu.setA_pc (w : Width) (v : Word) (c : Cpu) : (c.setA w v).pc = c.pc := by cases w <;> rfl
@[simp] theorem Cpu.setA_p (w : Width) (v : Word) (c : Cpu) : (c.setA w v).p = c.p := by cases w <;> rfl

@[simp] theorem Cpu.setX_a (w : Width) (v : Word) (c : Cpu) : (c.setX w v).a = c.a := rfl
@[simp] theorem Cpu.setX_x (w : Width) (v : Word) (c : Cpu) : (c.setX w v).x = w.trunc v := rfl
@[simp] theorem Cpu.setX_y (w : Width) (v : Word) (c : Cpu) : (c.setX w v).y = c.y := rfl
@[simp] theorem Cpu.setX_s (w : Width) (v : Word) (c : Cpu) : (c.setX w v).s = c.s := rfl
@[simp] theorem Cpu.setX_d (w : Width) (v : Word) (c : Cpu) : (c.setX w v).d = c.d := rfl
@[simp] theorem Cpu.setX_db (w : Width) (v : Word) (c : Cpu) : (c.setX w v).db = c.db := rfl
@[simp] theorem Cpu.setX_pb (w : Width) (v : Word) (c : Cpu) : (c.setX w v).pb = c.pb := rfl
@[simp] theorem Cpu.setX_pc (w : Width) (v : Word) (c : Cpu) : (c.setX w v).pc = c.pc := rfl
@[simp] theorem Cpu.setX_p (w : Width) (v : Word) (c : Cpu) : (c.setX w v).p = c.p := rfl

@[simp] theorem Cpu.setY_a (w : Width) (v : Word) (c : Cpu) : (c.setY w v).a = c.a := rfl
@[simp] theorem Cpu.setY_x (w : Width) (v : Word) (c : Cpu) : (c.setY w v).x = c.x := rfl
@[simp] theorem Cpu.setY_y (w : Width) (v : Word) (c : Cpu) : (c.setY w v).y = w.trunc v := rfl
@[simp] theorem Cpu.setY_s (w : Width) (v : Word) (c : Cpu) : (c.setY w v).s = c.s := rfl
@[simp] theorem Cpu.setY_d (w : Width) (v : Word) (c : Cpu) : (c.setY w v).d = c.d := rfl
@[simp] theorem Cpu.setY_db (w : Width) (v : Word) (c : Cpu) : (c.setY w v).db = c.db := rfl
@[simp] theorem Cpu.setY_pb (w : Width) (v : Word) (c : Cpu) : (c.setY w v).pb = c.pb := rfl
@[simp] theorem Cpu.setY_pc (w : Width) (v : Word) (c : Cpu) : (c.setY w v).pc = c.pc := rfl
@[simp] theorem Cpu.setY_p (w : Width) (v : Word) (c : Cpu) : (c.setY w v).p = c.p := rfl

@[simp] theorem Cpu.setS_a (v : Word) (c : Cpu) : (c.setS v).a = c.a := rfl
@[simp] theorem Cpu.setS_x (v : Word) (c : Cpu) : (c.setS v).x = c.x := rfl
@[simp] theorem Cpu.setS_y (v : Word) (c : Cpu) : (c.setS v).y = c.y := rfl
@[simp] theorem Cpu.setS_s (v : Word) (c : Cpu) : (c.setS v).s = if c.p.e then pageOne v else v := rfl
@[simp] theorem Cpu.setS_d (v : Word) (c : Cpu) : (c.setS v).d = c.d := rfl
@[simp] theorem Cpu.setS_db (v : Word) (c : Cpu) : (c.setS v).db = c.db := rfl
@[simp] theorem Cpu.setS_pb (v : Word) (c : Cpu) : (c.setS v).pb = c.pb := rfl
@[simp] theorem Cpu.setS_pc (v : Word) (c : Cpu) : (c.setS v).pc = c.pc := rfl
@[simp] theorem Cpu.setS_p (v : Word) (c : Cpu) : (c.setS v).p = c.p := rfl

@[simp] theorem Cpu.setNZ_a (v : Word) (w : Width) (c : Cpu) : (c.setNZ v w).a = c.a := rfl
@[simp] theorem Cpu.setNZ_x (v : Word) (w : Width) (c : Cpu) : (c.setNZ v w).x = c.x := rfl
@[simp] theorem Cpu.setNZ_y (v : Word) (w : Width) (c : Cpu) : (c.setNZ v w).y = c.y := rfl
@[simp] theorem Cpu.setNZ_s (v : Word) (w : Width) (c : Cpu) : (c.setNZ v w).s = c.s := rfl
@[simp] theorem Cpu.setNZ_d (v : Word) (w : Width) (c : Cpu) : (c.setNZ v w).d = c.d := rfl
@[simp] theorem Cpu.setNZ_db (v : Word) (w : Width) (c : Cpu) : (c.setNZ v w).db = c.db := rfl
@[simp] theorem Cpu.setNZ_pb (v : Word) (w : Width) (c : Cpu) : (c.setNZ v w).pb = c.pb := rfl
@[simp] theorem Cpu.setNZ_pc (v : Word) (w : Width) (c : Cpu) : (c.setNZ v w).pc = c.pc := rfl
@[simp] theorem Cpu.setNZ_p (v : Word) (w : Width) (c : Cpu) : (c.setNZ v w).p = { c.p with n := w.msb v, z := w.trunc v == 0 } := rfl

@[simp] theorem Cpu.loadA_a (w : Width) (v : Word) (c : Cpu) : (c.loadA w v).a = (c.setA w v).a := by cases w <;> rfl
@[simp] theorem Cpu.loadA_x (w : Width) (v : Word) (c : Cpu) : (c.loadA w v).x = c.x := by cases w <;> rfl
@[simp] theorem Cpu.loadA_y (w : Width) (v : Word) (c : Cpu) : (c.loadA w v).y = c.y := by cases w <;> rfl
@[simp] theorem Cpu.loadA_s (w : Width) (v : Word) (c : Cpu) : (c.loadA w v).s = c.s := by cases w <;> rfl
@[simp] theorem Cpu.loadA_d (w : Width) (v : Word) (c : Cpu) : (c.loadA w v).d = c.d := by cases w <;> rfl
@[simp] theorem Cpu.loadA_db (w : Width) (v : Word) (c : Cpu) : (c.loadA w v).db = c.db := by cases w <;> rfl
@[simp] theorem Cpu.loadA_pb (w : Width) (v : Word) (c : Cpu) : (c.loadA w v).pb = c.pb := by cases w <;> rfl
@[simp] theorem Cpu.loadA_pc (w : Width) (v : Word) (c : Cpu) : (c.loadA w v).pc = c.pc := by cases w <;> rfl
@[simp] theorem Cpu.loadA_p (w : Width) (v : Word) (c : Cpu) : (c.loadA w v).p = { c.p with n := w.msb v, z := w.trunc v == 0 } := by cases w <;> rfl

@[simp] theorem Cpu.loadX_a (w : Width) (v : Word) (c : Cpu) : (c.loadX w v).a = c.a := rfl
@[simp] theorem Cpu.loadX_x (w : Width) (v : Word) (c : Cpu) : (c.loadX w v).x = w.trunc v := rfl
@[simp] theorem Cpu.loadX_y (w : Width) (v : Word) (c : Cpu) : (c.loadX w v).y = c.y := rfl
@[simp] theorem Cpu.loadX_s (w : Width) (v : Word) (c : Cpu) : (c.loadX w v).s = c.s := rfl
@[simp] theorem Cpu.loadX_d (w : Width) (v : Word) (c : Cpu) : (c.loadX w v).d = c.d := rfl
@[simp] theorem Cpu.loadX_db (w : Width) (v : Word) (c : Cpu) : (c.loadX w v).db = c.db := rfl
@[simp] theorem Cpu.loadX_pb (w : Width) (v : Word) (c : Cpu) : (c.loadX w v).pb = c.pb := rfl
@[simp] theorem Cpu.loadX_pc (w : Width) (v : Word) (c : Cpu) : (c.loadX w v).pc = c.pc := rfl
@[simp] theorem Cpu.loadX_p (w : Width) (v : Word) (c : Cpu) : (c.loadX w v).p = { c.p with n := w.msb v, z := w.trunc v == 0 } := rfl

@[simp] theorem Cpu.loadY_a (w : Width) (v : Word) (c : Cpu) : (c.loadY w v).a = c.a := rfl
@[simp] theorem Cpu.loadY_x (w : Width) (v : Word) (c : Cpu) : (c.loadY w v).x = c.x := rfl
@[simp] theorem Cpu.loadY_y (w : Width) (v : Word) (c : Cpu) : (c.loadY w v).y = w.trunc v := rfl
@[simp] theorem Cpu.loadY_s (w : Width) (v : Word) (c : Cpu) : (c.loadY w v).s = c.s := rfl
@[simp] theorem Cpu.loadY_d (w : Width) (v : Word) (c : Cpu) : (c.loadY w v).d = c.d := rfl
@[simp] theorem Cpu.loadY_db (w : Width) (v : Word) (c : Cpu) : (c.loadY w v).db = c.db := rfl
@[simp] theorem Cpu.loadY_pb (w : Width) (v : Word) (c : Cpu) : (c.loadY w v).pb = c.pb := rfl
@[simp] theorem Cpu.loadY_pc (w : Width) (v : Word) (c : Cpu) : (c.loadY w v).pc = c.pc := rfl
@[simp] theorem Cpu.loadY_p (w : Width) (v : Word) (c : Cpu) : (c.loadY w v).p = { c.p with n := w.msb v, z := w.trunc v == 0 } := rfl

@[simp] theorem Cpu.compare_a (w : Width) (a m : Word) (c : Cpu) : (c.compare w a m).a = c.a := rfl
@[simp] theorem Cpu.compare_x (w : Width) (a m : Word) (c : Cpu) : (c.compare w a m).x = c.x := rfl
@[simp] theorem Cpu.compare_y (w : Width) (a m : Word) (c : Cpu) : (c.compare w a m).y = c.y := rfl
@[simp] theorem Cpu.compare_s (w : Width) (a m : Word) (c : Cpu) : (c.compare w a m).s = c.s := rfl
@[simp] theorem Cpu.compare_d (w : Width) (a m : Word) (c : Cpu) : (c.compare w a m).d = c.d := rfl
@[simp] theorem Cpu.compare_db (w : Width) (a m : Word) (c : Cpu) : (c.compare w a m).db = c.db := rfl
@[simp] theorem Cpu.compare_pb (w : Width) (a m : Word) (c : Cpu) : (c.compare w a m).pb = c.pb := rfl
@[simp] theorem Cpu.compare_pc (w : Width) (a m : Word) (c : Cpu) : (c.compare w a m).pc = c.pc := rfl
@[simp] theorem Cpu.compare_p (w : Width) (a m : Word) (c : Cpu) : (c.compare w a m).p = { c.p with n := w.msb (w.trunc (a - m)), z := w.trunc (w.trunc (a - m)) == 0, c := decide (m.toNat ≤ a.toNat) } := rfl

@[simp] theorem Cpu.testZ_a (w : Width) (m : Word) (c : Cpu) : (c.testZ w m).a = c.a := rfl
@[simp] theorem Cpu.testZ_x (w : Width) (m : Word) (c : Cpu) : (c.testZ w m).x = c.x := rfl
@[simp] theorem Cpu.testZ_y (w : Width) (m : Word) (c : Cpu) : (c.testZ w m).y = c.y := rfl
@[simp] theorem Cpu.testZ_s (w : Width) (m : Word) (c : Cpu) : (c.testZ w m).s = c.s := rfl
@[simp] theorem Cpu.testZ_d (w : Width) (m : Word) (c : Cpu) : (c.testZ w m).d = c.d := rfl
@[simp] theorem Cpu.testZ_db (w : Width) (m : Word) (c : Cpu) : (c.testZ w m).db = c.db := rfl
@[simp] theorem Cpu.testZ_pb (w : Width) (m : Word) (c : Cpu) : (c.testZ w m).pb = c.pb := rfl
@[simp] theorem Cpu.testZ_pc (w : Width) (m : Word) (c : Cpu) : (c.testZ w m).pc = c.pc := rfl
@[simp] theorem Cpu.testZ_p (w : Width) (m : Word) (c : Cpu) : (c.testZ w m).p = { c.p with z := c.getA w &&& m == 0 } := rfl

@[simp] theorem Cpu.bitMemory_a (w : Width) (m : Word) (c : Cpu) : (c.bitMemory w m).a = c.a := rfl
@[simp] theorem Cpu.bitMemory_x (w : Width) (m : Word) (c : Cpu) : (c.bitMemory w m).x = c.x := rfl
@[simp] theorem Cpu.bitMemory_y (w : Width) (m : Word) (c : Cpu) : (c.bitMemory w m).y = c.y := rfl
@[simp] theorem Cpu.bitMemory_s (w : Width) (m : Word) (c : Cpu) : (c.bitMemory w m).s = c.s := rfl
@[simp] theorem Cpu.bitMemory_d (w : Width) (m : Word) (c : Cpu) : (c.bitMemory w m).d = c.d := rfl
@[simp] theorem Cpu.bitMemory_db (w : Width) (m : Word) (c : Cpu) : (c.bitMemory w m).db = c.db := rfl
@[simp] theorem Cpu.bitMemory_pb (w : Width) (m : Word) (c : Cpu) : (c.bitMemory w m).pb = c.pb := rfl
@[simp] theorem Cpu.bitMemory_pc (w : Width) (m : Word) (c : Cpu) : (c.bitMemory w m).pc = c.pc := rfl
@[simp] theorem Cpu.bitMemory_p (w : Width) (m : Word) (c : Cpu) : (c.bitMemory w m).p = { c.p with n := w.msb m, v := w.msb2 m, z := c.getA w &&& m == 0 } := rfl

@[simp] theorem Cpu.setNZC_a (r : Word) (w : Width) (k : Bool) (c : Cpu) : (c.setNZC r w k).a = c.a := rfl
@[simp] theorem Cpu.setNZC_x (r : Word) (w : Width) (k : Bool) (c : Cpu) : (c.setNZC r w k).x = c.x := rfl
@[simp] theorem Cpu.setNZC_y (r : Word) (w : Width) (k : Bool) (c : Cpu) : (c.setNZC r w k).y = c.y := rfl
@[simp] theorem Cpu.setNZC_s (r : Word) (w : Width) (k : Bool) (c : Cpu) : (c.setNZC r w k).s = c.s := rfl
@[simp] theorem Cpu.setNZC_d (r : Word) (w : Width) (k : Bool) (c : Cpu) : (c.setNZC r w k).d = c.d := rfl
@[simp] theorem Cpu.setNZC_db (r : Word) (w : Width) (k : Bool) (c : Cpu) : (c.setNZC r w k).db = c.db := rfl
@[simp] theorem Cpu.setNZC_pb (r : Word) (w : Width) (k : Bool) (c : Cpu) : (c.setNZC r w k).pb = c.pb := rfl
@[simp] theorem Cpu.setNZC_pc (r : Word) (w : Width) (k : Bool) (c : Cpu) : (c.setNZC r w k).pc = c.pc := rfl
@[simp] theorem Cpu.setNZC_p (r : Word) (w : Width) (k : Bool) (c : Cpu) : (c.setNZC r w k).p = { c.p with n := w.msb r, z := w.trunc r == 0, c := k } := rfl

@[simp] theorem Cpu.stackDown_a (nw : Bool) (c : Cpu) : (c.stackDown nw).a = c.a := rfl
@[simp] theorem Cpu.stackDown_x (nw : Bool) (c : Cpu) : (c.stackDown nw).x = c.x := rfl
@[simp] theorem Cpu.stackDown_y (nw : Bool) (c : Cpu) : (c.stackDown nw).y = c.y := rfl
@[simp] theorem Cpu.stackDown_s (nw : Bool) (c : Cpu) : (c.stackDown nw).s = if c.p.e && !nw then pageOne (c.s - 1) else c.s - 1 := rfl
@[simp] theorem Cpu.stackDown_d (nw : Bool) (c : Cpu) : (c.stackDown nw).d = c.d := rfl
@[simp] theorem Cpu.stackDown_db (nw : Bool) (c : Cpu) : (c.stackDown nw).db = c.db := rfl
@[simp] theorem Cpu.stackDown_pb (nw : Bool) (c : Cpu) : (c.stackDown nw).pb = c.pb := rfl
@[simp] theorem Cpu.stackDown_pc (nw : Bool) (c : Cpu) : (c.stackDown nw).pc = c.pc := rfl
@[simp] theorem Cpu.stackDown_p (nw : Bool) (c : Cpu) : (c.stackDown nw).p = c.p := rfl

@[simp] theorem Cpu.stackUp_a (nw : Bool) (c : Cpu) : (c.stackUp nw).a = c.a := rfl
@[simp] theorem Cpu.stackUp_x (nw : Bool) (c : Cpu) : (c.stackUp nw).x = c.x := rfl
@[simp] theorem Cpu.stackUp_y (nw : Bool) (c : Cpu) : (c.stackUp nw).y = c.y := rfl
@[simp] theorem Cpu.stackUp_s (nw : Bool) (c : Cpu) : (c.stackUp nw).s = if c.p.e && !nw then pageOne (c.s + 1) else c.s + 1 := rfl
@[simp] theorem Cpu.stackUp_d (nw : Bool) (c : Cpu) : (c.stackUp nw).d = c.d := rfl
@[simp] theorem Cpu.stackUp_db (nw : Bool) (c : Cpu) : (c.stackUp nw).db = c.db := rfl
@[simp] theorem Cpu.stackUp_pb (nw : Bool) (c : Cpu) : (c.stackUp nw).pb = c.pb := rfl
@[simp] theorem Cpu.stackUp_pc (nw : Bool) (c : Cpu) : (c.stackUp nw).pc = c.pc := rfl
@[simp] theorem Cpu.stackUp_p (nw : Bool) (c : Cpu) : (c.stackUp nw).p = c.p := rfl

@[simp] theorem Cpu.restoreStackPage_a (nw : Bool) (c : Cpu) : (c.restoreStackPage nw).a = c.a := by unfold Cpu.restoreStackPage; split <;> rfl
@[simp] theorem Cpu.restoreStackPage_x (nw : Bool) (c : Cpu) : (c.restoreStackPage nw).x = c.x := by unfold Cpu.restoreStackPage; split <;> rfl
@[simp] theorem Cpu.restoreStackPage_y (nw : Bool) (c : Cpu) : (c.restoreStackPage nw).y = c.y := by unfold Cpu.restoreStackPage; split <;> rfl
@[simp] theorem Cpu.restoreStackPage_s (nw : Bool) (c : Cpu) : (c.restoreStackPage nw).s = if c.p.e && nw then pageOne c.s else c.s := by unfold Cpu.restoreStackPage; split <;> rfl
@[simp] theorem Cpu.restoreStackPage_d (nw : Bool) (c : Cpu) : (c.restoreStackPage nw).d = c.d := by unfold Cpu.restoreStackPage; split <;> rfl
@[simp] theorem Cpu.restoreStackPage_db (nw : Bool) (c : Cpu) : (c.restoreStackPage nw).db = c.db := by unfold Cpu.restoreStackPage; split <;> rfl
@[simp] theorem Cpu.restoreStackPage_pb (nw : Bool) (c : Cpu) : (c.restoreStackPage nw).pb = c.pb := by unfold Cpu.restoreStackPage; split <;> rfl
@[simp] theorem Cpu.restoreStackPage_pc (nw : Bool) (c : Cpu) : (c.restoreStackPage nw).pc = c.pc := by unfold Cpu.restoreStackPage; split <;> rfl
@[simp] theorem Cpu.restoreStackPage_p (nw : Bool) (c : Cpu) : (c.restoreStackPage nw).p = c.p := by unfold Cpu.restoreStackPage; split <;> rfl

@[simp] theorem Cpu.fixIndex_a (c : Cpu) : (c.fixIndex).a = c.a := by unfold Cpu.fixIndex; split <;> rfl
@[simp] theorem Cpu.fixIndex_x (c : Cpu) : (c.fixIndex).x = if c.p.x then c.x &&& 0x00FF else c.x := by unfold Cpu.fixIndex; split <;> rfl
@[simp] theorem Cpu.fixIndex_y (c : Cpu) : (c.fixIndex).y = if c.p.x then c.y &&& 0x00FF else c.y := by unfold Cpu.fixIndex; split <;> rfl
@[simp] theorem Cpu.fixIndex_s (c : Cpu) : (c.fixIndex).s = c.s := by unfold Cpu.fixIndex; split <;> rfl
@[simp] theorem Cpu.fixIndex_d (c : Cpu) : (c.fixIndex).d = c.d := by unfold Cpu.fixIndex; split <;> rfl
@[simp] theorem Cpu.fixIndex_db (c : Cpu) : (c.fixIndex).db = c.db := by unfold Cpu.fixIndex; split <;> rfl
@[simp] theorem Cpu.fixIndex_pb (c : Cpu) : (c.fixIndex).pb = c.pb := by unfold Cpu.fixIndex; split <;> rfl
@[simp] theorem Cpu.fixIndex_pc (c : Cpu) : (c.fixIndex).pc = c.pc := by unfold Cpu.fixIndex; split <;> rfl
@[simp] theorem Cpu.fixIndex_p (c : Cpu) : (c.fixIndex).p = c.p := by unfold Cpu.fixIndex; split <;> rfl

@[simp] theorem Cpu.pullStatus_a (v : Byte) (c : Cpu) : (c.pullStatus v).a = c.a := by unfold Cpu.pullStatus; simp
@[simp] theorem Cpu.pullStatus_s (v : Byte) (c : Cpu) : (c.pullStatus v).s = c.s := by unfold Cpu.pullStatus; simp
@[simp] theorem Cpu.pullStatus_d (v : Byte) (c : Cpu) : (c.pullStatus v).d = c.d := by unfold Cpu.pullStatus; simp
@[simp] theorem Cpu.pullStatus_db (v : Byte) (c : Cpu) : (c.pullStatus v).db = c.db := by unfold Cpu.pullStatus; simp
@[simp] theorem Cpu.pullStatus_pb (v : Byte) (c : Cpu) : (c.pullStatus v).pb = c.pb := by unfold Cpu.pullStatus; simp
@[simp] theorem Cpu.pullStatus_pc (v : Byte) (c : Cpu) : (c.pullStatus v).pc = c.pc := by unfold Cpu.pullStatus; simp
@[simp] theorem Cpu.pullStatus_p (v : Byte) (c : Cpu) : (c.pullStatus v).p = (c.p.withByte v).forceEmulation := by unfold Cpu.pullStatus; simp

@[simp] theorem Cpu.resetBits_a (m : Byte) (c : Cpu) : (c.resetBits m).a = c.a := rfl
@[simp] theorem Cpu.resetBits_x (m : Byte) (c : Cpu) : (c.resetBits m).x = c.x := rfl
@[simp] theorem Cpu.resetBits_y (m : Byte) (c : Cpu) : (c.resetBits m).y = c.y := rfl
@[simp] theorem Cpu.resetBits_s (m : Byte) (c : Cpu) : (c.resetBits m).s = c.s := rfl
@[simp] theorem Cpu.resetBits_d (m : Byte) (c : Cpu) : (c.resetBits m).d = c.d := rfl
@[simp] theorem Cpu.resetBits_db (m : Byte) (c : Cpu) : (c.resetBits m).db = c.db := rfl
@[simp] theorem Cpu.resetBits_pb (m : Byte) (c : Cpu) : (c.resetBits m).pb = c.pb := rfl
@[simp] theorem Cpu.resetBits_pc (m : Byte) (c : Cpu) : (c.resetBits m).pc = c.pc := rfl
@[simp] theorem Cpu.resetBits_p (m : Byte) (c : Cpu) : (c.resetBits m).p = (c.p.withByte (c.p.toByte &&& ~~~m)).forceEmulation := rfl

@[simp] theorem Cpu.setBits_a (m : Byte) (c : Cpu) : (c.setBits m).a = c.a := by unfold Cpu.setBits; simp
@[simp] theorem Cpu.setBits_s (m : Byte) (c : Cpu) : (c.setBits m).s = c.s := by unfold Cpu.setBits; simp
@[simp] theorem Cpu.setBits_d (m : Byte) (c : Cpu) : (c.setBits m).d = c.d := by unfold Cpu.setBits; simp
@[simp] theorem Cpu.setBits_db (m : Byte) (c : Cpu) : (c.setBits m).db = c.db := by unfold Cpu.setBits; simp
@[simp] theorem Cpu.setBits_pb (m : Byte) (c : Cpu) : (c.setBits m).pb = c.pb := by unfold Cpu.setBits; simp
@[simp] theorem Cpu.setBits_pc (m : Byte) (c : Cpu) : (c.setBits m).pc = c.pc := by unfold Cpu.setBits; simp
@[simp] theorem Cpu.setBits_p (m : Byte) (c : Cpu) : (c.setBits m).p = c.p.withByte (c.p.toByte ||| m) := by unfold Cpu.setBits; simp

@[simp] theorem Cpu.storeSum_a (w : Width) (r : SumResult) (c : Cpu) : (c.storeSum w r).a = (c.setA w r.value).a := by cases w <;> rfl
@[simp] theorem Cpu.storeSum_x (w : Width) (r : SumResult) (c : Cpu) : (c.storeSum w r).x = c.x := by cases w <;> rfl
@[simp] theorem Cpu.storeSum_y (w : Width) (r : SumResult) (c : Cpu) : (c.storeSum w r).y = c.y := by cases w <;> rfl
@[simp] theorem Cpu.storeSum_s (w : Width) (r : SumResult) (c : Cpu) : (c.storeSum w r).s = c.s := by cases w <;> rfl
@[simp] theorem Cpu.storeSum_d (w : Width) (r : SumResult) (c : Cpu) : (c.storeSum w r).d = c.d := by cases w <;> rfl
@[simp] theorem Cpu.storeSum_db (w : Width) (r : SumResult) (c : Cpu) : (c.storeSum w r).db = c.db := by cases w <;> rfl
@[simp] theorem Cpu.storeSum_pb (w : Width) (r : SumResult) (c : Cpu) : (c.storeSum w r).pb = c.pb := by cases w <;> rfl
@[simp] theorem Cpu.storeSum_pc (w : Width) (r : SumResult) (c : Cpu) : (c.storeSum w r).pc = c.pc := by cases w <;> rfl
@[simp] theorem Cpu.storeSum_p (w : Width) (r : SumResult) (c : Cpu) : (c.storeSum w r).p = { c.p with n := w.msb r.value, z := w.trunc r.value == 0, c := r.carry, v := r.overflow } := by cases w <;> rfl

end Sys2Proof.Machine
end

