-- ==== Sys2Proof/Laws/Uninit.lean ====
section
/-! SUPPORT. The record of `UNINIT_READ = FAULT`: under `DRAW` it does nothing, and every change of it keeps its canonical form. -/

namespace Sys2Proof.Machine

/-! ## Under `DRAW` -/

@[simp] theorem State.marksAfter_draw (f : Marks → Marks) {s : State} (h : s.params.uninitRead = .draw) :
    s.marksAfter f = s.marks := by
  simp [State.marksAfter, h]

@[simp] theorem State.note_draw (f : Marks → Marks) {s : State} (h : s.params.uninitRead = .draw) : s.note f = s := by
  simp [State.note, h]

@[simp] theorem State.noteInstr_draw (i : Instr) {s : State} (h : s.params.uninitRead = .draw) : s.noteInstr i = s :=
  State.note_draw _ h

@[simp] theorem State.readUnwritten_draw {s : State} (h : s.params.uninitRead = .draw) : s.readUnwritten = false := by
  simp [State.readUnwritten, h]

/-- Under `DRAW` no step faults for an unwritten value. -/
theorem faultUnwritten_draw {t : State} (h : t.params.uninitRead = .draw) : faultUnwritten (.next t) = .next t := by
  simp [faultUnwritten, h]

/-! ## The canonical form -/

/-- A change of the record that keeps its canonical form and never takes a violation back. -/
def Marks.Keeps (f : Marks → Marks) : Prop :=
  ∀ m : Marks, (m.wf = true → (f m).wf = true) ∧ (m.violated = true → (f m).violated = true)

theorem Marks.Keeps.comp {f g : Marks → Marks} (hf : Marks.Keeps f) (hg : Marks.Keeps g) : Marks.Keeps fun m => g (f m) :=
  fun m => ⟨fun h => (hg _).1 ((hf m).1 h), fun h => (hg _).2 ((hf m).2 h)⟩

theorem Marks.wf_iff (m : Marks) :
    m.wf = true ↔ m.cells.wf ramCells = true ∧ m.unwritten.Sublist State.reset.marks.unwritten := by
  simp [Marks.wf]

theorem Marks.keeps_read (vs : List Drawn) : Marks.Keeps (Marks.read vs) :=
  fun _ => ⟨id, fun h => by simp [Marks.read, h]⟩

theorem Marks.keeps_write (vs : List Drawn) : Marks.Keeps (Marks.write vs) := by
  refine fun m => ⟨fun h => ?_, id⟩
  rw [Marks.wf_iff] at h ⊢
  exact ⟨h.1, List.filter_sublist.trans h.2⟩

theorem Marks.keeps_readCell (c : Option CellId) : Marks.Keeps (Marks.readCell c) := by
  intro m
  unfold Marks.readCell
  split
  · exact ⟨id, fun h => by simp [h]⟩
  · exact ⟨id, id⟩

/-- The places of the cells of each region lie below `ramCells`. -/
theorem ramIndex_lt (c : CellId) (k : Nat) (hc : c.1.fits c.2) (h : ramIndex c = some k) : k < ramCells := by
  obtain ⟨r, l⟩ := c
  cases r <;> simp only [ramIndex, Option.some.injEq, reduceCtorEq, Region.fits, ramCells] at h hc ⊢ <;> omega

theorem Marks.keeps_writeCell (c : Option CellId) (hc : ∀ k, c = some k → k.1.fits k.2) : Marks.Keeps (Marks.writeCell c) := by
  intro m
  unfold Marks.writeCell
  cases c with
  | none => exact ⟨id, id⟩
  | some k =>
    rw [Option.bind_some]
    cases hk : ramIndex k with
    | none => exact ⟨id, id⟩
    | some l =>
      refine ⟨fun h => ?_, id⟩
      rw [Marks.wf_iff] at h ⊢
      exact ⟨Mem.wf_write _ _ _ _ (ramIndex_lt k l (hc k rfl) hk) h.1, h.2⟩

/-- The cell an address reaches lies in its region. -/
theorem Bus.locate_fits (b : Bus) (a : Addr) (c : CellId) (h : b.locate a = some c) : c.1.fits c.2 := by
  unfold Bus.locate at h
  split at h
  · obtain ⟨l, hl, rfl⟩ := Option.map_eq_some_iff.mp h
    exact busALocal_lt a l hl
  · split at h
    · cases h
      exact b.wmAddr.isLt
    · cases h
  · exact b.cartCell_fits a c h
  · cases h
  · cases h

theorem Bus.storeCell_fits (b : Bus) (a : Addr) (c : CellId) (h : b.storeCell a = some c) : c.1.fits c.2 := by
  obtain ⟨k, hk, e⟩ := Option.bind_eq_some_iff.mp h
  split at e
  · cases e
  · cases e
    exact b.locate_fits a c hk

theorem Bus.keeps_readMarks (r : Bool) (a : Addr) (b : Bus) : Marks.Keeps (b.readMarks r a) := by
  intro m
  unfold Bus.readMarks
  split
  · exact ((Marks.keeps_readCell _).comp ((Marks.keeps_read _).comp (Marks.keeps_write _))) m
  · exact Marks.keeps_read _ m

theorem Bus.keeps_writeMarks (a : Addr) (b : Bus) : Marks.Keeps (b.writeMarks a) := by
  have k := (Marks.keeps_write (viewsAt a)).comp (Marks.keeps_writeCell _ fun k hk => b.storeCell_fits a k hk)
  intro m
  unfold Bus.writeMarks
  split
  · exact ((Marks.keeps_read _).comp k) m
  · exact k m

theorem keeps_agentMarks (inp : BoundaryInput) : Marks.Keeps (agentMarks inp) := by
  have k : ∀ ws : List (BitVec 17 × Byte),
      Marks.Keeps fun m => ws.foldl (fun m w => m.writeCell (some (.wram, w.1.toNat))) m := by
    intro ws
    induction ws with
    | nil => exact fun _ => ⟨id, id⟩
    | cons w ws ih =>
      refine (Marks.keeps_writeCell _ ?_).comp ih
      rintro _ ⟨⟩
      exact w.1.isLt
  intro m
  unfold agentMarks
  dsimp only
  split
  · exact ((k inp.agentWrites).comp (Marks.keeps_write _)) m
  · exact k inp.agentWrites m

/-- What every access and every note does to the record of a state: it stays canonical, a violation is never taken back, and under
`DRAW` it stays as it was. -/
def State.RecordKept (s : State) (m : Marks) : Prop :=
  (s.marks.wf = true → m.wf = true) ∧ (s.marks.violated = true → m.violated = true) ∧
  (s.params.uninitRead = .draw → m = s.marks)

theorem State.RecordKept.refl (s : State) : s.RecordKept s.marks := ⟨id, id, fun _ => rfl⟩

theorem State.RecordKept.after {s t : State} {m : Marks} (k : t.RecordKept m) (h : s.RecordKept t.marks)
    (hp : t.params = s.params) : s.RecordKept m :=
  ⟨fun x => k.1 (h.1 x), fun x => k.2.1 (h.2.1 x), fun x => (k.2.2 (hp ▸ x)).trans (h.2.2 x)⟩

theorem State.recordKept_marksAfter {f : Marks → Marks} (s : State) (h : Marks.Keeps f) : s.RecordKept (s.marksAfter f) := by
  unfold State.marksAfter
  split
  · exact State.RecordKept.refl s
  · rename_i hp
    exact ⟨(h _).1, (h _).2, fun e => absurd (hp.symm.trans e) (by decide)⟩

end Sys2Proof.Machine
end

