-- ==== Sys2Proof/Laws/Ops.lean ====
section
/-! SUPPORT. The shared operations: for each one, once, everything it can do. -/

namespace Sys2Proof.Machine

/-! ## Reads: the latch, WmAddr, the external history and the record move, nothing else -/

/-- `t` is `s` after some reads. -/
def State.ReadsTo (s t : State) : Prop :=
  ∃ l w n m, t = { s with bus := { s.bus with latch := l, wmAddr := w, extCount := n }, marks := m } ∧ s.RecordKept m

theorem State.ReadsTo.refl (s : State) : s.ReadsTo s :=
  ⟨s.bus.latch, s.bus.wmAddr, s.bus.extCount, s.marks, rfl, .refl s⟩

theorem State.ReadsTo.trans {s t u : State} (h : s.ReadsTo t) (k : t.ReadsTo u) : s.ReadsTo u := by
  obtain ⟨_, _, _, _, rfl, h⟩ := h
  obtain ⟨l, w, n, m, rfl, k⟩ := k
  exact ⟨l, w, n, m, rfl, k.after h rfl⟩

theorem State.ReadsTo.cpu_eq {s t : State} (h : s.ReadsTo t) : t.cpu = s.cpu := by
  obtain ⟨_, _, _, _, rfl, _⟩ := h; rfl
theorem State.ReadsTo.params_eq {s t : State} (h : s.ReadsTo t) : t.params = s.params := by
  obtain ⟨_, _, _, _, rfl, _⟩ := h; rfl
theorem State.ReadsTo.cart_eq {s t : State} (h : s.ReadsTo t) : t.bus.cart = s.bus.cart := by
  obtain ⟨_, _, _, _, rfl, _⟩ := h; rfl
theorem State.ReadsTo.cellByte_eq {s t : State} (h : s.ReadsTo t) (c : CellId) : t.bus.cellByte c = s.bus.cellByte c := by
  obtain ⟨_, _, _, _, rfl, _⟩ := h; rfl
theorem State.ReadsTo.wf_eq {s t : State} (h : s.ReadsTo t) : t.bus.wf = s.bus.wf := by
  obtain ⟨_, _, _, _, rfl, _⟩ := h; rfl

theorem State.read8_readsTo (a : Addr) (s : State) : s.ReadsTo (s.read8 a).2 := by
  obtain ⟨l, w, n, h⟩ := Bus.read_eq s.params.wmaddReadable false a s.bus
  exact ⟨l, w, n, s.marksAfter (s.bus.readMarks s.params.wmaddReadable a), by simp [State.read8, h],
    s.recordKept_marksAfter (s.bus.keeps_readMarks _ a)⟩

theorem State.read16At_readsTo (lo hi : Addr) (s : State) : s.ReadsTo (s.read16At lo hi).2 :=
  (s.read8_readsTo lo).trans ((s.read8 lo).2.read8_readsTo hi)

theorem State.readPtr_readsTo (bank : Byte) (off : Word) (s : State) : s.ReadsTo (s.readPtr bank off).2 :=
  s.read16At_readsTo _ _

theorem State.read24At_readsTo (a0 a1 a2 : Addr) (s : State) : s.ReadsTo (s.read24At a0 a1 a2).2 :=
  (s.read16At_readsTo a0 a1).trans ((s.read16At a0 a1).2.read8_readsTo a2)

/-- Resolving an operand only reads pointers (R173 to R196). -/
theorem resolve_readsTo (o : Operand) (s : State) : s.ReadsTo (resolve o s).st := by
  cases o
  case directIndirect dp => exact s.read16At_readsTo _ _
  case directXIndirect dp => exact s.read16At_readsTo _ _
  case directIndirectY dp => exact s.read16At_readsTo _ _
  case directIndirectLong dp => exact s.read24At_readsTo _ _ _
  case directIndirectLongY dp => exact s.read24At_readsTo _ _ _
  case absoluteIndirect a => exact s.readPtr_readsTo _ _
  case absoluteIndirectLong a => exact s.read24At_readsTo _ _ _
  case absoluteXIndirect a => exact s.readPtr_readsTo _ _
  case stackRelativeIndirectY sr => exact s.readPtr_readsTo _ _
  all_goals exact State.ReadsTo.refl s

theorem State.readEA_readsTo (ea : EA) (w : Width) (s : State) : s.ReadsTo (s.readEA ea w).2 := by
  cases w
  · exact s.read8_readsTo _
  · exact s.read16At_readsTo _ _

theorem readOperand_readsTo (o : Operand) (w : Width) (s : State) : s.ReadsTo (readOperand o w s).st := by
  have h := (resolve_readsTo o s).trans ((resolve o s).st.readEA_readsTo (resolve o s).ea w)
  cases o <;> first | exact h | exact State.ReadsTo.refl s

theorem State.fetchBytes_readsTo (bank : Byte) (off : Word) (n : Nat) (s : State) :
    s.ReadsTo (s.fetchBytes bank off n).2 := by
  induction n generalizing off s with
  | zero => exact State.ReadsTo.refl s
  | succ n ih => exact (s.read8_readsTo _).trans (ih (off + 1) _)

theorem State.fetch_readsTo (s : State) : s.ReadsTo s.fetch.2 :=
  (s.read8_readsTo _).trans (State.fetchBytes_readsTo _ _ _ _)

theorem State.pull8_readsTo (nw : Bool) (s : State) : (s.mapCpu (Cpu.stackUp nw)).ReadsTo (s.pull8 nw).2 :=
  State.read8_readsTo _ _

/-! ## Stores: memory and the MMU move, the cartridge and the canonical form stay -/

/-- `t` is `s` with another bus and record, reached by reads and stores. -/
def State.AccessesTo (s t : State) : Prop :=
  ∃ b m, t = { s with bus := b, marks := m } ∧ b.cart = s.bus.cart ∧ (s.bus.wf = true → b.wf = true) ∧ s.RecordKept m

theorem State.AccessesTo.refl (s : State) : s.AccessesTo s := ⟨s.bus, s.marks, rfl, rfl, id, .refl s⟩

theorem State.AccessesTo.trans {s t u : State} (h : s.AccessesTo t) (k : t.AccessesTo u) : s.AccessesTo u := by
  obtain ⟨b, m, rfl, hc, hw, h⟩ := h
  obtain ⟨d, n, rfl, kc, kw, k⟩ := k
  exact ⟨d, n, rfl, kc.trans hc, fun x => kw (hw x), k.after h rfl⟩

theorem State.ReadsTo.accessesTo {s t : State} (h : s.ReadsTo t) : s.AccessesTo t := by
  obtain ⟨l, w, n, m, rfl, hm⟩ := h
  exact ⟨_, m, rfl, rfl, id, hm⟩

theorem State.write8_accessesTo (a : Addr) (v : Byte) (s : State) : s.AccessesTo (s.write8 a v) :=
  ⟨_, _, rfl, Bus.write_cart a v s.bus, Bus.write_wf a v s.bus, s.recordKept_marksAfter (s.bus.keeps_writeMarks a)⟩

/-- A note changes the record only. -/
theorem State.note_accessesTo {f : Marks → Marks} (h : Marks.Keeps f) (s : State) : s.AccessesTo (s.note f) :=
  ⟨s.bus, _, rfl, rfl, id, s.recordKept_marksAfter h⟩

theorem State.noteInstr_accessesTo (i : Instr) (s : State) : s.AccessesTo (s.noteInstr i) :=
  s.note_accessesTo ((Marks.keeps_read _).comp (Marks.keeps_write _))

theorem State.writeEA_accessesTo (ea : EA) (w : Width) (v : Word) (s : State) : s.AccessesTo (s.writeEA ea w v) := by
  cases w
  · exact s.write8_accessesTo _ _
  · exact (s.write8_accessesTo _ _).trans (State.write8_accessesTo _ _ _)

theorem State.writeRMW_accessesTo (ea : EA) (w : Width) (v : Word) (s : State) : s.AccessesTo (s.writeRMW ea w v) := by
  cases w
  · exact s.write8_accessesTo _ _
  · exact (s.write8_accessesTo _ _).trans (State.write8_accessesTo _ _ _)

theorem storeOperand_accessesTo (o : Operand) (w : Width) (v : Word) (s : State) : s.AccessesTo (storeOperand o w v s) :=
  (resolve_readsTo o s).accessesTo.trans (State.writeEA_accessesTo _ _ _ _)

/-- A read-modify-write on memory changes the bus only. -/
theorem rmw_accessesTo (o : Operand) (w : Width) (f : Word → Word) (s : State) (h : o ≠ .accumulator) :
    s.AccessesTo (rmw o w f s).st := by
  have k := ((resolve_readsTo o s).trans (State.readEA_readsTo (resolve o s).ea w (resolve o s).st)).accessesTo
  cases o <;> first | exact absurd rfl h | exact k.trans (State.writeRMW_accessesTo _ _ _ _)

/-! ## Moves: accesses and register updates together -/

/-- `t` is `s` with other registers and another bus and record, the cartridge and the canonical form kept. -/
def State.MovesTo (s t : State) : Prop :=
  ∃ c b m, t = { s with cpu := c, bus := b, marks := m } ∧ b.cart = s.bus.cart ∧ (s.bus.wf = true → b.wf = true) ∧ s.RecordKept m

theorem State.MovesTo.refl (s : State) : s.MovesTo s := ⟨s.cpu, s.bus, s.marks, rfl, rfl, id, .refl s⟩

theorem State.MovesTo.trans {s t u : State} (h : s.MovesTo t) (k : t.MovesTo u) : s.MovesTo u := by
  obtain ⟨c, b, m, rfl, hc, hw, h⟩ := h
  obtain ⟨e, d, n, rfl, kc, kw, k⟩ := k
  exact ⟨e, d, n, rfl, kc.trans hc, fun x => kw (hw x), k.after h rfl⟩

theorem State.AccessesTo.movesTo {s t : State} (h : s.AccessesTo t) : s.MovesTo t := by
  obtain ⟨b, m, rfl, hc, hw⟩ := h
  exact ⟨_, b, m, rfl, hc, hw⟩

theorem State.ReadsTo.movesTo {s t : State} (h : s.ReadsTo t) : s.MovesTo t := h.accessesTo.movesTo

theorem State.mapCpu_movesTo (f : Cpu → Cpu) (s : State) : s.MovesTo (s.mapCpu f) :=
  ⟨f s.cpu, s.bus, s.marks, rfl, rfl, id, .refl s⟩

theorem State.push8_movesTo (nw : Bool) (v : Byte) (s : State) : s.MovesTo (s.push8 nw v) :=
  (s.write8_accessesTo _ _).movesTo.trans (State.mapCpu_movesTo _ _)

theorem State.push16_movesTo (nw : Bool) (v : Word) (s : State) : s.MovesTo (s.push16 nw v) :=
  (s.push8_movesTo _ _).trans (State.push8_movesTo _ _ _)

theorem State.pushW_movesTo (nw : Bool) (w : Width) (v : Word) (s : State) : s.MovesTo (s.pushW nw w v) := by
  cases w
  · exact s.push8_movesTo _ _
  · exact s.push16_movesTo _ _

theorem State.pull8_movesTo (nw : Bool) (s : State) : s.MovesTo (s.pull8 nw).2 :=
  (s.mapCpu_movesTo _).trans (State.read8_readsTo _ _).movesTo

theorem State.pull16_movesTo (nw : Bool) (s : State) : s.MovesTo (s.pull16 nw).2 :=
  (s.pull8_movesTo nw).trans (State.pull8_movesTo nw _)

theorem State.pullW_movesTo (nw : Bool) (w : Width) (s : State) : s.MovesTo (s.pullW nw w).2 := by
  cases w
  · exact s.pull8_movesTo _
  · exact s.pull16_movesTo _

theorem State.enterException_movesTo (nw : Bool) (ret : Word) (image : Byte) (vector : Word) (s : State) :
    s.MovesTo (s.enterException nw ret image vector) := by
  have h1 : s.MovesTo (if s.cpu.p.e then s else s.push8 nw s.cpu.pb) := by
    split
    · exact State.MovesTo.refl s
    · exact s.push8_movesTo _ _
  have h3 := (h1.trans (State.push16_movesTo nw ret _)).trans (State.push8_movesTo nw image _)
  unfold State.enterException
  refine State.MovesTo.trans ?_ (State.mapCpu_movesTo _ _)
  exact (h3.trans (State.mapCpu_movesTo _ _)).trans (State.readPtr_readsTo _ _ _).movesTo

theorem State.returnFromException_movesTo (nw : Bool) (s : State) : s.MovesTo (s.returnFromException nw) := by
  have h : s.MovesTo _ := (((s.pull8_movesTo nw).trans (State.mapCpu_movesTo (fun c => c.pullStatus (s.pull8 nw).1) _)).trans
    (State.pull16_movesTo nw _)).trans (State.mapCpu_movesTo (fun c => { c with pc :=
      (((s.pull8 nw).2.mapCpu (fun c => c.pullStatus (s.pull8 nw).1)).pull16 nw).1 }) _)
  refine State.MovesTo.trans (h.trans ?_) (State.mapCpu_movesTo _ _)
  split
  · exact State.MovesTo.refl _
  · exact (State.pull8_movesTo nw _).trans (State.mapCpu_movesTo _ _)

/-- The agent writes WRAM and WmAddr only (R77). -/
theorem Bus.agentWrites_spec (ws : List (BitVec 17 × Byte)) (b : Bus) :
    (b.agentWrites ws).cart = b.cart ∧ (b.wf = true → (b.agentWrites ws).wf = true) := by
  induction ws generalizing b with
  | nil => exact ⟨rfl, id⟩
  | cons w ws ih =>
    have k := ih (b.setCell (.wram, w.1.toNat) w.2)
    exact ⟨k.1.trans (Bus.setCell_cart _ _ _), fun h => k.2 (Bus.wf_setCell b (.wram, w.1.toNat) w.2 w.1.isLt h)⟩

theorem State.agentStep_accessesTo (inp : BoundaryInput) (s : State) : s.AccessesTo (s.agentStep inp) := by
  unfold State.agentStep
  split
  · have k := s.bus.agentWrites_spec inp.agentWrites
    exact ⟨_, _, rfl, k.1, k.2, s.recordKept_marksAfter (keeps_agentMarks inp)⟩
  · exact State.AccessesTo.refl s

end Sys2Proof.Machine
end

