-- ==== Sys2Proof/Laws/Boundary.lean ====
section
/-! SUPPORT. A step, part by part: which part of a boundary runs, from the lines and the run state alone. -/

namespace Sys2Proof.Machine

/-- The next boundary's input and the state with it taken. -/
theorem State.takeInput_eq (s : State) : s.takeInput = (s.inputs.headD {}, { s with inputs := s.inputs.tail }) := by
  obtain ⟨_, _, _, _, _, _, _, _, _, _, inputs⟩ := s
  cases inputs <;> rfl

/-- A machine with a cartridge steps through its boundary, and under `UNINIT_READ = FAULT` the unwritten reads end it. -/
theorem step_of_cart {s : State} (h : s.bus.cart.isSome = true) :
    step s = faultUnwritten (State.boundaryWith (s.inputs.headD {}) { s with inputs := s.inputs.tail }) := by
  simp only [step, State.boundary, State.takeInput_eq]
  rw [if_neg (by simpa [← Option.isSome_iff_ne_none] using h)]

theorem State.boundaryWith_reset {inp : BoundaryInput} (s : State) (h : inp.reset = true) :
    s.boundaryWith inp = .next ((s.agentStep inp).resetSequence inp.nmi) := by
  simp [State.boundaryWith, h]

theorem State.boundaryWith_stopped {inp : BoundaryInput} {s : State} (h : inp.reset = false) (hs : s.run = .stopped) :
    s.boundaryWith inp = .next s := by
  simp [State.boundaryWith, h, hs]

theorem State.boundaryWith_later {inp : BoundaryInput} {s : State} (h : inp.reset = false) (hs : s.run ≠ .stopped) :
    s.boundaryWith inp = (s.agentStep inp).nmiOrLater inp := by
  simp [State.boundaryWith, h, hs]

end Sys2Proof.Machine
end

