-- ==== Sys2Proof/Laws/Dispatch.lean ====
section
/-! SUPPORT. The dispatch seen by mnemonic: for each mnemonic of more than one addressing mode, exec of every form of it is the one
operation of that mnemonic, on the instruction's opcode and operand. -/

namespace Sys2Proof.Machine

/-- BIT of an operand: only Z for an immediate (R258). -/
def bitOf (op : Byte) (o : Operand) (s : State) : State :=
  match o with
  | .immediate _ => bitImmediate op o s
  | _ => bit op o s

/-- The operation of a mnemonic of several addressing modes. -/
def perform (m : Mnemonic) (op : Byte) (o : Operand) (s : State) : Option State :=
  match m with
  | .lda => some (lda op o s)
  | .ldx => some (ldx op o s)
  | .ldy => some (ldy op o s)
  | .sta => some (sta op o s)
  | .stx => some (stx op o s)
  | .sty => some (sty op o s)
  | .stz => some (stz op o s)
  | .adc => some (adc op o s)
  | .sbc => some (sbc op o s)
  | .cmp => some (cmp op o s)
  | .cpx => some (cpx op o s)
  | .cpy => some (cpy op o s)
  | .and => some (logicAnd op o s)
  | .ora => some (logicOr op o s)
  | .eor => some (logicXor op o s)
  | .bit => some (bitOf op o s)
  | .tsb => some (tsb op o s)
  | .trb => some (trb op o s)
  | .inc => some (inc op o s)
  | .dec => some (dec op o s)
  | .asl => some (asl op o s)
  | .lsr => some (lsr op o s)
  | .rol => some (rol op o s)
  | .ror => some (ror op o s)
  | _ => none

/-- exec of every form of those mnemonics is that operation. -/
theorem exec_eq_perform (i : Instr) (s : State) :
    match perform i.mnemonic i.opcode i.operand s with
    | some t => exec i s = .next t
    | none => True := by
  cases i <;> dsimp only [Instr.mnemonic, Instr.opcode, Instr.operand] <;> first | exact trivial | exact rfl

theorem exec_of_perform (i : Instr) (s t : State) (h : perform i.mnemonic i.opcode i.operand s = some t) :
    exec i s = .next t := by
  have e := exec_eq_perform i s
  rw [h] at e
  exact e

/-- Every form of LDA. -/
theorem exec_lda (i : Instr) (s : State) (h : i.mnemonic = .lda) : exec i s = .next (lda i.opcode i.operand s) :=
  exec_of_perform i s _ (by rw [h]; rfl)

/-- Every form of LDX. -/
theorem exec_ldx (i : Instr) (s : State) (h : i.mnemonic = .ldx) : exec i s = .next (ldx i.opcode i.operand s) :=
  exec_of_perform i s _ (by rw [h]; rfl)

/-- Every form of LDY. -/
theorem exec_ldy (i : Instr) (s : State) (h : i.mnemonic = .ldy) : exec i s = .next (ldy i.opcode i.operand s) :=
  exec_of_perform i s _ (by rw [h]; rfl)

/-- Every form of STA. -/
theorem exec_sta (i : Instr) (s : State) (h : i.mnemonic = .sta) : exec i s = .next (sta i.opcode i.operand s) :=
  exec_of_perform i s _ (by rw [h]; rfl)

/-- Every form of STX. -/
theorem exec_stx (i : Instr) (s : State) (h : i.mnemonic = .stx) : exec i s = .next (stx i.opcode i.operand s) :=
  exec_of_perform i s _ (by rw [h]; rfl)

/-- Every form of STY. -/
theorem exec_sty (i : Instr) (s : State) (h : i.mnemonic = .sty) : exec i s = .next (sty i.opcode i.operand s) :=
  exec_of_perform i s _ (by rw [h]; rfl)

/-- Every form of STZ. -/
theorem exec_stz (i : Instr) (s : State) (h : i.mnemonic = .stz) : exec i s = .next (stz i.opcode i.operand s) :=
  exec_of_perform i s _ (by rw [h]; rfl)

/-- Every form of ADC. -/
theorem exec_adc (i : Instr) (s : State) (h : i.mnemonic = .adc) : exec i s = .next (adc i.opcode i.operand s) :=
  exec_of_perform i s _ (by rw [h]; rfl)

/-- Every form of SBC. -/
theorem exec_sbc (i : Instr) (s : State) (h : i.mnemonic = .sbc) : exec i s = .next (sbc i.opcode i.operand s) :=
  exec_of_perform i s _ (by rw [h]; rfl)

/-- Every form of CMP. -/
theorem exec_cmp (i : Instr) (s : State) (h : i.mnemonic = .cmp) : exec i s = .next (cmp i.opcode i.operand s) :=
  exec_of_perform i s _ (by rw [h]; rfl)

/-- Every form of CPX. -/
theorem exec_cpx (i : Instr) (s : State) (h : i.mnemonic = .cpx) : exec i s = .next (cpx i.opcode i.operand s) :=
  exec_of_perform i s _ (by rw [h]; rfl)

/-- Every form of CPY. -/
theorem exec_cpy (i : Instr) (s : State) (h : i.mnemonic = .cpy) : exec i s = .next (cpy i.opcode i.operand s) :=
  exec_of_perform i s _ (by rw [h]; rfl)

/-- Every form of AND. -/
theorem exec_and (i : Instr) (s : State) (h : i.mnemonic = .and) : exec i s = .next (logicAnd i.opcode i.operand s) :=
  exec_of_perform i s _ (by rw [h]; rfl)

/-- Every form of ORA. -/
theorem exec_ora (i : Instr) (s : State) (h : i.mnemonic = .ora) : exec i s = .next (logicOr i.opcode i.operand s) :=
  exec_of_perform i s _ (by rw [h]; rfl)

/-- Every form of EOR. -/
theorem exec_eor (i : Instr) (s : State) (h : i.mnemonic = .eor) : exec i s = .next (logicXor i.opcode i.operand s) :=
  exec_of_perform i s _ (by rw [h]; rfl)

/-- Every form of BIT. -/
theorem exec_bit (i : Instr) (s : State) (h : i.mnemonic = .bit) : exec i s = .next (bitOf i.opcode i.operand s) :=
  exec_of_perform i s _ (by rw [h]; rfl)

/-- Every form of TSB. -/
theorem exec_tsb (i : Instr) (s : State) (h : i.mnemonic = .tsb) : exec i s = .next (tsb i.opcode i.operand s) :=
  exec_of_perform i s _ (by rw [h]; rfl)

/-- Every form of TRB. -/
theorem exec_trb (i : Instr) (s : State) (h : i.mnemonic = .trb) : exec i s = .next (trb i.opcode i.operand s) :=
  exec_of_perform i s _ (by rw [h]; rfl)

/-- Every form of INC. -/
theorem exec_inc (i : Instr) (s : State) (h : i.mnemonic = .inc) : exec i s = .next (inc i.opcode i.operand s) :=
  exec_of_perform i s _ (by rw [h]; rfl)

/-- Every form of DEC. -/
theorem exec_dec (i : Instr) (s : State) (h : i.mnemonic = .dec) : exec i s = .next (dec i.opcode i.operand s) :=
  exec_of_perform i s _ (by rw [h]; rfl)

/-- Every form of ASL. -/
theorem exec_asl (i : Instr) (s : State) (h : i.mnemonic = .asl) : exec i s = .next (asl i.opcode i.operand s) :=
  exec_of_perform i s _ (by rw [h]; rfl)

/-- Every form of LSR. -/
theorem exec_lsr (i : Instr) (s : State) (h : i.mnemonic = .lsr) : exec i s = .next (lsr i.opcode i.operand s) :=
  exec_of_perform i s _ (by rw [h]; rfl)

/-- Every form of ROL. -/
theorem exec_rol (i : Instr) (s : State) (h : i.mnemonic = .rol) : exec i s = .next (rol i.opcode i.operand s) :=
  exec_of_perform i s _ (by rw [h]; rfl)

/-- Every form of ROR. -/
theorem exec_ror (i : Instr) (s : State) (h : i.mnemonic = .ror) : exec i s = .next (ror i.opcode i.operand s) :=
  exec_of_perform i s _ (by rw [h]; rfl)

end Sys2Proof.Machine
end

