-- ==== Sys2Proof/Laws/Registers.lean ====
section
/-! SUPPORT. The register invariants (R42, R43) under each update of the register file. -/

namespace Sys2Proof.Machine

/-! ## High bytes -/

@[simp] theorem wordHi_low (v : Word) : wordHi (v &&& 255#16) = 0#8 := by
  have h : ∀ i : Fin 8, (wordHi (v &&& 255#16)).getLsbD i = (0#8 : Byte).getLsbD i := by
    intro i
    simp only [wordHi, BitVec.getLsbD_setWidth, BitVec.getLsbD_ushiftRight, BitVec.getLsbD_and]
    fin_cases i <;> simp
  exact BitVec.eq_of_getLsbD_eq fun i hi => h ⟨i, hi⟩

@[simp] theorem wordHi_pageOne (v : Word) : wordHi (pageOne v) = 1 := by
  have h : ∀ i : Fin 8, (wordHi (pageOne v)).getLsbD i = (1 : Byte).getLsbD i := by
    intro i
    simp only [wordHi, pageOne, BitVec.getLsbD_setWidth, BitVec.getLsbD_ushiftRight, BitVec.getLsbD_or, BitVec.getLsbD_and]
    fin_cases i <;> simp
  exact BitVec.eq_of_getLsbD_eq fun i hi => h ⟨i, hi⟩

@[simp] theorem wordHi_trunc8 (v : Word) : wordHi (Width.w8.trunc v) = 0 := wordHi_low v

/-! ## The bits of the status image (R32) -/

@[simp] theorem Status.toByte_n (p : Status) : p.toByte[7] = p.n := by
  have h : ∀ n v m x d i z c : Bool, (Status.toByte ⟨n, v, m, x, d, i, z, c, false⟩)[7] = n := by decide
  exact h p.n p.v p.m p.x p.d p.i p.z p.c
@[simp] theorem Status.toByte_v (p : Status) : p.toByte[6] = p.v := by
  have h : ∀ n v m x d i z c : Bool, (Status.toByte ⟨n, v, m, x, d, i, z, c, false⟩)[6] = v := by decide
  exact h p.n p.v p.m p.x p.d p.i p.z p.c
@[simp] theorem Status.toByte_m (p : Status) : p.toByte[5] = p.m := by
  have h : ∀ n v m x d i z c : Bool, (Status.toByte ⟨n, v, m, x, d, i, z, c, false⟩)[5] = m := by decide
  exact h p.n p.v p.m p.x p.d p.i p.z p.c
@[simp] theorem Status.toByte_x (p : Status) : p.toByte[4] = p.x := by
  have h : ∀ n v m x d i z c : Bool, (Status.toByte ⟨n, v, m, x, d, i, z, c, false⟩)[4] = x := by decide
  exact h p.n p.v p.m p.x p.d p.i p.z p.c
@[simp] theorem Status.toByte_d (p : Status) : p.toByte[3] = p.d := by
  have h : ∀ n v m x d i z c : Bool, (Status.toByte ⟨n, v, m, x, d, i, z, c, false⟩)[3] = d := by decide
  exact h p.n p.v p.m p.x p.d p.i p.z p.c
@[simp] theorem Status.toByte_i (p : Status) : p.toByte[2] = p.i := by
  have h : ∀ n v m x d i z c : Bool, (Status.toByte ⟨n, v, m, x, d, i, z, c, false⟩)[2] = i := by decide
  exact h p.n p.v p.m p.x p.d p.i p.z p.c
@[simp] theorem Status.toByte_z (p : Status) : p.toByte[1] = p.z := by
  have h : ∀ n v m x d i z c : Bool, (Status.toByte ⟨n, v, m, x, d, i, z, c, false⟩)[1] = z := by decide
  exact h p.n p.v p.m p.x p.d p.i p.z p.c
@[simp] theorem Status.toByte_c (p : Status) : p.toByte[0] = p.c := by
  have h : ∀ n v m x d i z c : Bool, (Status.toByte ⟨n, v, m, x, d, i, z, c, false⟩)[0] = c := by decide
  exact h p.n p.v p.m p.x p.d p.i p.z p.c

/-- Writing the image back leaves the register as it is. -/
@[simp] theorem Status.withByte_toByte (p : Status) : p.withByte p.toByte = p := by
  simp [Status.withByte]

/-! ## The invariants as propositions -/

theorem Cpu.inv_iff (c : Cpu) :
    c.inv = true ↔
      (c.p.e = true → c.p.m = true ∧ c.p.x = true ∧ wordHi c.s = 1) ∧ (c.p.x = true → wordHi c.x = 0 ∧ wordHi c.y = 0) := by
  unfold Cpu.inv
  cases c.p.e <;> cases c.p.m <;> cases c.p.x <;> simp

/-- With P.X set the index width is one byte. -/
theorem Cpu.xw_of_x {c : Cpu} (h : c.p.x = true) : c.xw = .w8 := by simp [Cpu.xw, Cpu.is16X, h, Width.of]

/-- The invariants read six parts of the register file only. -/
theorem Cpu.inv_congr {c d : Cpu} (hx : d.x = c.x) (hy : d.y = c.y) (hs : d.s = c.s) (he : d.p.e = c.p.e) (hm : d.p.m = c.p.m)
    (hp : d.p.x = c.p.x) : d.inv = c.inv := by
  unfold Cpu.inv
  rw [hx, hy, hs, he, hm, hp]

@[simp] theorem Cpu.inv_setA (w : Width) (v : Word) (c : Cpu) : (c.setA w v).inv = c.inv :=
  Cpu.inv_congr (by simp) (by simp) (by simp) (by simp) (by simp) (by simp)
@[simp] theorem Cpu.inv_setNZ (v : Word) (w : Width) (c : Cpu) : (c.setNZ v w).inv = c.inv := rfl
@[simp] theorem Cpu.inv_loadA (w : Width) (v : Word) (c : Cpu) : (c.loadA w v).inv = c.inv := by simp [Cpu.loadA]
@[simp] theorem Cpu.inv_storeSum (w : Width) (r : SumResult) (c : Cpu) : (c.storeSum w r).inv = c.inv :=
  Cpu.inv_congr (by simp) (by simp) (by simp) (by simp) (by simp) (by simp)
@[simp] theorem Cpu.inv_compare (w : Width) (a m : Word) (c : Cpu) : (c.compare w a m).inv = c.inv := rfl
@[simp] theorem Cpu.inv_testZ (w : Width) (m : Word) (c : Cpu) : (c.testZ w m).inv = c.inv := rfl
@[simp] theorem Cpu.inv_bitMemory (w : Width) (m : Word) (c : Cpu) : (c.bitMemory w m).inv = c.inv := rfl
@[simp] theorem Cpu.inv_setNZC (r : Word) (w : Width) (k : Bool) (c : Cpu) : (c.setNZC r w k).inv = c.inv := rfl

theorem Cpu.inv_loadX (v : Word) (c : Cpu) (h : c.inv = true) : (c.loadX c.xw v).inv = true := by
  rw [Cpu.inv_iff] at h ⊢
  refine ⟨h.1, fun hx => ⟨?_, (h.2 hx).2⟩⟩
  have hx : c.p.x = true := hx
  rw [Cpu.xw_of_x hx]
  exact wordHi_low v

theorem Cpu.inv_loadY (v : Word) (c : Cpu) (h : c.inv = true) : (c.loadY c.xw v).inv = true := by
  rw [Cpu.inv_iff] at h ⊢
  refine ⟨h.1, fun hx => ⟨(h.2 hx).1, ?_⟩⟩
  have hx : c.p.x = true := hx
  rw [Cpu.xw_of_x hx]
  exact wordHi_low v

theorem Cpu.inv_setS (v : Word) (c : Cpu) (h : c.inv = true) : (c.setS v).inv = true := by
  rw [Cpu.inv_iff] at h ⊢
  refine ⟨fun he => ⟨(h.1 he).1, (h.1 he).2.1, ?_⟩, h.2⟩
  simp only [Cpu.setS_s, Cpu.setS_p] at he ⊢
  simp [he]

/-- A status with M and X forced, the index registers fixed: the invariants hold if S.h is right. -/
theorem Cpu.inv_fixIndex (c : Cpu) (h : c.p.e = true → c.p.m = true ∧ c.p.x = true ∧ wordHi c.s = 1) :
    c.fixIndex.inv = true := by
  rw [Cpu.inv_iff]
  refine ⟨by simpa using h, fun hx => ?_⟩
  simp only [Cpu.fixIndex_p] at hx
  simp only [Cpu.fixIndex_x, Cpu.fixIndex_y, hx, if_true]
  exact ⟨wordHi_low _, wordHi_low _⟩

theorem Cpu.inv_pullStatus (v : Byte) (c : Cpu) (h : c.p.e = true → wordHi c.s = 1) : (c.pullStatus v).inv = true := by
  refine Cpu.inv_fixIndex _ fun he => ?_
  have he : c.p.e = true := he
  exact ⟨by simp [Status.forceEmulation, Status.withByte, he], by simp [Status.forceEmulation, Status.withByte, he], h he⟩

theorem Cpu.inv_resetBits (m : Byte) (c : Cpu) (h : c.inv = true) : (c.resetBits m).inv = true := by
  rw [Cpu.inv_iff] at h ⊢
  refine ⟨fun he => ?_, fun hx => ?_⟩
  · have he : c.p.e = true := he
    exact ⟨by simp [Cpu.resetBits, Status.forceEmulation, Status.withByte, he],
      by simp [Cpu.resetBits, Status.forceEmulation, Status.withByte, he], (h.1 he).2.2⟩
  · refine h.2 ?_
    cases hc : c.p.x
    · cases he : c.p.e
      · simp [Cpu.resetBits, Status.forceEmulation, Status.withByte, hc, he] at hx
      · exact hc.symm.trans (h.1 he).2.1
    · rfl

theorem Cpu.inv_setBits (m : Byte) (c : Cpu) (h : c.inv = true) : (c.setBits m).inv = true := by
  refine Cpu.inv_fixIndex _ fun he => ?_
  have he : c.p.e = true := he
  obtain ⟨h1, h2, h3⟩ := ((Cpu.inv_iff c).mp h).1 he
  exact ⟨by simp [Status.withByte, h1],
    by simp [Status.withByte, h2], h3⟩

theorem Cpu.inv_exchange (c : Cpu) (h : c.inv = true) : c.exchange.inv = true := by
  unfold Cpu.exchange
  dsimp only
  split
  · rw [Cpu.inv_iff]
    simp [Cpu.enterEmulation]
  · rename_i he
    rw [Cpu.inv_iff] at h ⊢
    exact ⟨fun k => absurd k he, h.2⟩

theorem Cpu.inv_resetRegisters (c : Cpu) : c.resetRegisters.inv = true := by
  rw [Cpu.inv_iff]
  simp [Cpu.resetRegisters]

/-! ## The stack -/

/-- The invariants with S.h left open, as they are within an instruction free of the page-1 wrap. -/
def Cpu.invButStack (c : Cpu) : Prop :=
  (c.p.e = true → c.p.m = true ∧ c.p.x = true) ∧ (c.p.x = true → wordHi c.x = 0 ∧ wordHi c.y = 0)

theorem Cpu.invButStack_of_inv {c : Cpu} (h : c.inv = true) : c.invButStack := by
  rw [Cpu.inv_iff] at h
  exact ⟨fun e => ⟨(h.1 e).1, (h.1 e).2.1⟩, h.2⟩

/-- What an instruction keeps of S.h: all of it where its accesses wrap, none where they do not. -/
def Cpu.invWithin (nw : Bool) (c : Cpu) : Prop := c.invButStack ∧ (nw = false → c.p.e = true → wordHi c.s = 1)

theorem Cpu.invWithin_of_inv {c : Cpu} (nw : Bool) (h : c.inv = true) : c.invWithin nw :=
  ⟨Cpu.invButStack_of_inv h, fun _ he => (((Cpu.inv_iff c).mp h).1 he).2.2⟩

theorem Cpu.invWithin_stackDown {c : Cpu} {nw : Bool} (h : c.invWithin nw) : (c.stackDown nw).invWithin nw := by
  refine ⟨h.1, fun hn he => ?_⟩
  have he : c.p.e = true := he
  simp [hn, he]

theorem Cpu.invWithin_stackUp {c : Cpu} {nw : Bool} (h : c.invWithin nw) : (c.stackUp nw).invWithin nw := by
  refine ⟨h.1, fun hn he => ?_⟩
  have he : c.p.e = true := he
  simp [hn, he]

theorem Cpu.inv_restoreStackPage {c : Cpu} {nw : Bool} (h : c.invWithin nw) : (c.restoreStackPage nw).inv = true := by
  rw [Cpu.inv_iff]
  refine ⟨fun he => ?_, by simpa using h.1.2⟩
  simp only [Cpu.restoreStackPage_p] at he
  refine ⟨by simpa using (h.1.1 he).1, by simpa using (h.1.1 he).2, ?_⟩
  cases nw
  · simpa using h.2 rfl he
  · simp [he]

end Sys2Proof.Machine
end

