-- ==== Sys2Proof/Laws/Forms.lean ====
section
/-! SUPPORT. The invariant of Safety.lean under the shared forms of the instructions, under taking an exception and returning from
one, and under the reset sequence. -/

namespace Sys2Proof.Machine

/-! ## The invariant of a state -/

theorem State.inv_iff (s : State) : s.inv = true ↔ s.cpu.inv = true ∧ s.bus.wf = true ∧ s.marks.wf = true := by
  simp [State.inv, and_assoc]

theorem State.inv_of_accesses {s t : State} (h : s.AccessesTo t) (hs : s.inv = true) : t.inv = true := by
  obtain ⟨b, m, rfl, _, hw, hm⟩ := h
  rw [State.inv_iff] at hs ⊢
  exact ⟨hs.1, hw hs.2.1, hm.1 hs.2.2⟩

/-- A register update that keeps the register invariants keeps the invariant. -/
theorem State.inv_mapCpu {s : State} {f : Cpu → Cpu} (hs : s.inv = true) (h : (f s.cpu).inv = true) :
    (s.mapCpu f).inv = true := by
  rw [State.inv_iff] at hs ⊢
  exact ⟨h, hs.2⟩

theorem State.inv_retire {op : Byte} {pc : Bool} {s0 s : State} (h : s.inv = true) :
    (State.retire op pc s0 s).inv = true := h

theorem State.inv_retireAt {op : Byte} {tg : Word} {s0 s : State} (h : s.inv = true) :
    (State.retireAt op tg s0 s).inv = true := h

theorem State.inv_retireFar {op : Byte} {tg : Addr} {s0 s : State} (h : s.inv = true) :
    (State.retireFar op tg s0 s).inv = true := h

/-! ## The forms -/

theorem impliedInstr_inv {op : Byte} {f : Cpu → Cpu} {s : State} (hs : s.inv = true)
    (h : s.cpu.inv = true → (f s.cpu).inv = true) : (impliedInstr op f s).inv = true :=
  State.inv_retire (State.inv_mapCpu hs (h ((State.inv_iff s).mp hs).1))

theorem readInstr_inv {op : Byte} {o : Operand} {w : Width} {g : Word → Cpu → Cpu} {s : State} (hs : s.inv = true)
    (h : ∀ m, s.cpu.inv = true → (g m s.cpu).inv = true) :
    (readInstr op o w (fun m t => t.mapCpu (g m)) s).inv = true := by
  have k := readOperand_readsTo o w s
  refine State.inv_retire (State.inv_mapCpu (State.inv_of_accesses k.accessesTo hs) ?_)
  rw [k.cpu_eq]
  exact h _ ((State.inv_iff s).mp hs).1

theorem State.addTo_inv {w : Width} {sub : Bool} {m : Word} {s : State} (hs : s.inv = true) : (s.addTo w sub m).inv = true := by
  rw [State.inv_iff] at hs ⊢
  unfold State.addTo
  split
  · exact ⟨(Cpu.inv_storeSum _ _ _).trans hs.1, hs.2⟩
  · exact ⟨(Cpu.inv_storeSum _ _ _).trans hs.1, hs.2⟩

theorem adder_inv {op : Byte} {o : Operand} {w v : Width} {sub : Bool} {s : State} (hs : s.inv = true) :
    (readInstr op o w (fun m t => t.addTo v sub m) s).inv = true :=
  State.inv_retire (State.addTo_inv (State.inv_of_accesses (readOperand_readsTo o w s).accessesTo hs))

theorem storeInstr_inv {op : Byte} {o : Operand} {w : Width} {v : Word} {s : State} (hs : s.inv = true) :
    (storeInstr op o w v s).inv = true :=
  State.inv_retire (State.inv_of_accesses (storeOperand_accessesTo o w v s) hs)

theorem rmw_inv {o : Operand} {w : Width} {f : Word → Word} {s : State} (hs : s.inv = true) : (rmw o w f s).st.inv = true := by
  by_cases ho : o = .accumulator
  · subst ho
    exact State.inv_mapCpu hs ((Cpu.inv_setA _ _ _).trans ((State.inv_iff s).mp hs).1)
  · exact State.inv_of_accesses (rmw_accessesTo o w f s ho) hs

theorem rmwInstr_inv {op : Byte} {o : Operand} {w : Width} {f : Word → Word} {g : Word → Word → Cpu → Cpu} {s : State}
    (hs : s.inv = true) (h : ∀ v r c, c.inv = true → (g v r c).inv = true) : (rmwInstr op o w f g s).inv = true := by
  have k := rmw_inv (o := o) (w := w) (f := f) hs
  exact State.inv_retire (State.inv_mapCpu k (h _ _ _ ((State.inv_iff _).mp k).1))

/-! ## The stack forms -/

/-- What holds within an instruction that uses the stack. -/
def State.invWithin (nw : Bool) (s : State) : Prop := s.cpu.invWithin nw ∧ s.bus.wf = true ∧ s.marks.wf = true

theorem State.invWithin_of_inv {s : State} (nw : Bool) (h : s.inv = true) : s.invWithin nw :=
  ⟨Cpu.invWithin_of_inv nw ((State.inv_iff s).mp h).1, ((State.inv_iff s).mp h).2⟩

theorem State.inv_restore {nw : Bool} {s : State} (h : s.invWithin nw) :
    (s.mapCpu (Cpu.restoreStackPage nw)).inv = true := by
  rw [State.inv_iff]
  exact ⟨Cpu.inv_restoreStackPage h.1, h.2⟩

theorem State.invWithin_of_accesses {nw : Bool} {s t : State} (k : s.AccessesTo t) (h : s.invWithin nw) : t.invWithin nw := by
  obtain ⟨b, m, rfl, _, hw, hm⟩ := k
  exact ⟨h.1, hw h.2.1, hm.1 h.2.2⟩

theorem State.mapCpu_within {nw : Bool} {f : Cpu → Cpu} {s : State} (h : s.invWithin nw)
    (k : ∀ c : Cpu, c.invWithin nw → (f c).invWithin nw) : (s.mapCpu f).invWithin nw :=
  ⟨k _ h.1, h.2⟩

theorem State.push8_within {nw : Bool} {v : Byte} {s : State} (h : s.invWithin nw) : (s.push8 nw v).invWithin nw :=
  State.mapCpu_within (State.invWithin_of_accesses (s.write8_accessesTo _ v) h) fun _ k => Cpu.invWithin_stackDown k

theorem State.push16_within {nw : Bool} {v : Word} {s : State} (h : s.invWithin nw) : (s.push16 nw v).invWithin nw :=
  State.push8_within (State.push8_within h)

theorem State.pushW_within {nw : Bool} {w : Width} {v : Word} {s : State} (h : s.invWithin nw) :
    (s.pushW nw w v).invWithin nw := by
  cases w
  · exact State.push8_within h
  · exact State.push16_within h

theorem State.pull8_within {nw : Bool} {s : State} (h : s.invWithin nw) : (s.pull8 nw).2.invWithin nw :=
  State.invWithin_of_accesses (s.pull8_readsTo nw).accessesTo ⟨Cpu.invWithin_stackUp h.1, h.2⟩

theorem State.pull16_within {nw : Bool} {s : State} (h : s.invWithin nw) : (s.pull16 nw).2.invWithin nw :=
  State.pull8_within (State.pull8_within h)

theorem State.pullW_within {nw : Bool} {w : Width} {s : State} (h : s.invWithin nw) : (s.pullW nw w).2.invWithin nw := by
  cases w
  · exact State.pull8_within h
  · exact State.pull16_within h

theorem stackInstr_inv {op : Byte} {f : Bool → State → State} {s : State} (hs : s.inv = true)
    (h : ∀ nw, s.invWithin nw → (f nw s).invWithin nw) : (stackInstr op f s).inv = true :=
  State.inv_retire (State.inv_restore (h _ (State.invWithin_of_inv _ hs)))

/-! ## Exceptions and reset -/

theorem State.enterException_inv {nw : Bool} {ret : Word} {image : Byte} {vector : Word} {s : State} (hs : s.inv = true) :
    (s.enterException nw ret image vector).inv = true := by
  have h0 := State.invWithin_of_inv nw hs
  have h1 : (if s.cpu.p.e then s else s.push8 nw s.cpu.pb).invWithin nw := by
    split
    · exact h0
    · exact State.push8_within h0
  have h2 := State.push8_within (v := image) (State.push16_within (v := ret) h1)
  have h3 : (((State.push8 nw image (State.push16 nw ret (if s.cpu.p.e then s else s.push8 nw s.cpu.pb))).mapCpu
      fun c => { c with pb := 0, p := { c.p with i := true, d := false } }).readPtr 0 vector).2.invWithin nw :=
    State.invWithin_of_accesses (State.readPtr_readsTo _ _ _).accessesTo h2
  exact State.inv_restore (s := State.mapCpu (fun c => { c with pc := _ }) _) h3

theorem Cpu.invWithin_pullStatus {nw : Bool} {c : Cpu} (v : Byte) (h : c.invWithin nw) : (c.pullStatus v).invWithin nw := by
  refine ⟨⟨fun he => ?_, fun hx => ?_⟩, fun hn he => ?_⟩
  · rw [Cpu.pullStatus_p] at he ⊢
    have he : c.p.e = true := he
    simp [Status.forceEmulation, Status.withByte, he]
  · rw [Cpu.pullStatus_p] at hx
    unfold Cpu.pullStatus
    simp only [Cpu.fixIndex_x, Cpu.fixIndex_y, hx, if_true]
    exact ⟨wordHi_low _, wordHi_low _⟩
  · rw [Cpu.pullStatus_p] at he
    rw [Cpu.pullStatus_s]
    exact h.2 hn he

theorem State.returnFromException_inv {nw : Bool} {s : State} (hs : s.inv = true) :
    (s.returnFromException nw).inv = true := by
  have h0 := State.pull8_within (State.invWithin_of_inv nw hs)
  unfold State.returnFromException
  dsimp only
  generalize s.pull8 nw = p at h0 ⊢
  have h2 := State.pull16_within (State.mapCpu_within (f := fun c => c.pullStatus p.1) h0
    fun c h => Cpu.invWithin_pullStatus p.1 h)
  generalize State.pull16 nw _ = q at h2 ⊢
  have h3 := State.mapCpu_within (f := fun c => { c with pc := q.1 }) h2 fun _ h => h
  refine State.inv_restore ?_
  split
  · exact h3
  · exact State.mapCpu_within (State.pull8_within h3) fun _ h => h

/-- The reset sequence establishes the register invariants, whatever the registers were. -/
theorem State.resetSequence_inv {nmi : Bool} {s : State} (hw : s.bus.wf = true) (hm : s.marks.wf = true) :
    (s.resetSequence nmi).inv = true := by
  have h : State.inv { s.mapCpu Cpu.resetRegisters with nmiPending := false, nmiPrev := nmi, run := .running, iBefore := none } = true :=
    (State.inv_iff _).mpr ⟨Cpu.inv_resetRegisters s.cpu, hw, hm⟩
  have k := State.inv_of_accesses (State.readPtr_readsTo 0 (vectorAddress true .reset) _).accessesTo h
  exact State.inv_mapCpu k ((State.inv_iff _).mp k).1

end Sys2Proof.Machine
end

