-- ==== Sys2Proof/Laws/PerInstr.lean ====
section
/-! SUPPORT. One lemma per constructor of Instr: the encoding of a well-formed instruction has the length the FetchByte rule gives
its opcode byte (R133, R134). -/

namespace Sys2Proof.Laws.EncodedLength

/-- The encoding of the instruction is as long as `total_fetch_bytes` says, in every width state it is well-formed in. -/
def Statement (i : Instr) : Prop := ∀ w, i.wellFormed w = true → (encode i).length = totalFetchBytes w i.opcode

/-- An immediate that fits has the byte count of the width. -/
theorem imm_length (wide : Bool) (imm : Imm) (h : imm.fits wide = true) : imm.bytes.length = 1 + if wide then 1 else 0 := by
  cases imm <;> cases wide <;> first | rfl | cases h

theorem plain (i : Instr) (code : Byte) (n : Nat) (ho : i.opcode = code) (hl : i.operand.bytes.length = n)
    (hf : ∀ w, (opRecord code).fetch.totalBytes w = n) : Statement i := by
  intro w _
  simp only [encode, List.length_cons, hl, totalFetchBytes, operandBytes, ho, hf]
  omega

theorem m16 (i : Instr) (code : Byte) (imm : Imm) (hc : i.opcode = code) (ho : i.operand = .immediate imm) (hw : ∀ w, i.wellFormed w = imm.fits w.m16)
    (hf : (opRecord code).fetch = .addByteIf .mRegZero 1) : Statement i := by
  intro w h
  rw [hw] at h
  simp only [encode, ho, Operand.bytes, List.length_cons, imm_length _ _ h, totalFetchBytes, operandBytes, hc, hf, FetchByte.totalBytes]
  omega

theorem x16 (i : Instr) (code : Byte) (imm : Imm) (hc : i.opcode = code) (ho : i.operand = .immediate imm) (hw : ∀ w, i.wellFormed w = imm.fits w.x16)
    (hf : (opRecord code).fetch = .addByteIf .xRegZero 1) : Statement i := by
  intro w h
  rw [hw] at h
  simp only [encode, ho, Operand.bytes, List.length_cons, imm_length _ _ h, totalFetchBytes, operandBytes, hc, hf, FetchByte.totalBytes]
  omega

theorem brk (sig : Byte) : Statement (.brk sig) := plain _ 0x00 1 rfl rfl fun _ => rfl
theorem oraIndX (dp : Byte) : Statement (.oraIndX dp) := plain _ 0x01 1 rfl rfl fun _ => rfl
theorem cop (sig : Byte) : Statement (.cop sig) := plain _ 0x02 1 rfl rfl fun _ => rfl
theorem oraSr (sr : Byte) : Statement (.oraSr sr) := plain _ 0x03 1 rfl rfl fun _ => rfl
theorem tsbDir (dp : Byte) : Statement (.tsbDir dp) := plain _ 0x04 1 rfl rfl fun _ => rfl
theorem oraDir (dp : Byte) : Statement (.oraDir dp) := plain _ 0x05 1 rfl rfl fun _ => rfl
theorem aslDir (dp : Byte) : Statement (.aslDir dp) := plain _ 0x06 1 rfl rfl fun _ => rfl
theorem oraIndLong (dp : Byte) : Statement (.oraIndLong dp) := plain _ 0x07 1 rfl rfl fun _ => rfl
theorem oraImm (imm : Imm) : Statement (.oraImm imm) := m16 _ 0x09 imm rfl rfl (fun _ => rfl) rfl
theorem tsbAbs (addr : Word) : Statement (.tsbAbs addr) := plain _ 0x0C 2 rfl rfl fun _ => rfl
theorem oraAbs (addr : Word) : Statement (.oraAbs addr) := plain _ 0x0D 2 rfl rfl fun _ => rfl
theorem aslAbs (addr : Word) : Statement (.aslAbs addr) := plain _ 0x0E 2 rfl rfl fun _ => rfl
theorem oraLong (long : Addr) : Statement (.oraLong long) := plain _ 0x0F 3 rfl rfl fun _ => rfl
theorem bpl (rel : Byte) : Statement (.bpl rel) := plain _ 0x10 1 rfl rfl fun _ => rfl
theorem oraIndY (dp : Byte) : Statement (.oraIndY dp) := plain _ 0x11 1 rfl rfl fun _ => rfl
theorem oraInd (dp : Byte) : Statement (.oraInd dp) := plain _ 0x12 1 rfl rfl fun _ => rfl
theorem oraSrIndY (sr : Byte) : Statement (.oraSrIndY sr) := plain _ 0x13 1 rfl rfl fun _ => rfl
theorem trbDir (dp : Byte) : Statement (.trbDir dp) := plain _ 0x14 1 rfl rfl fun _ => rfl
theorem oraDirX (dp : Byte) : Statement (.oraDirX dp) := plain _ 0x15 1 rfl rfl fun _ => rfl
theorem aslDirX (dp : Byte) : Statement (.aslDirX dp) := plain _ 0x16 1 rfl rfl fun _ => rfl
theorem oraIndLongY (dp : Byte) : Statement (.oraIndLongY dp) := plain _ 0x17 1 rfl rfl fun _ => rfl
theorem oraAbsY (addr : Word) : Statement (.oraAbsY addr) := plain _ 0x19 2 rfl rfl fun _ => rfl
theorem trbAbs (addr : Word) : Statement (.trbAbs addr) := plain _ 0x1C 2 rfl rfl fun _ => rfl
theorem oraAbsX (addr : Word) : Statement (.oraAbsX addr) := plain _ 0x1D 2 rfl rfl fun _ => rfl
theorem aslAbsX (addr : Word) : Statement (.aslAbsX addr) := plain _ 0x1E 2 rfl rfl fun _ => rfl
theorem oraLongX (long : Addr) : Statement (.oraLongX long) := plain _ 0x1F 3 rfl rfl fun _ => rfl
theorem jsrAbs (addr : Word) : Statement (.jsrAbs addr) := plain _ 0x20 2 rfl rfl fun _ => rfl
theorem andIndX (dp : Byte) : Statement (.andIndX dp) := plain _ 0x21 1 rfl rfl fun _ => rfl
theorem jsl (long : Addr) : Statement (.jsl long) := plain _ 0x22 3 rfl rfl fun _ => rfl
theorem andSr (sr : Byte) : Statement (.andSr sr) := plain _ 0x23 1 rfl rfl fun _ => rfl
theorem bitDir (dp : Byte) : Statement (.bitDir dp) := plain _ 0x24 1 rfl rfl fun _ => rfl
theorem andDir (dp : Byte) : Statement (.andDir dp) := plain _ 0x25 1 rfl rfl fun _ => rfl
theorem rolDir (dp : Byte) : Statement (.rolDir dp) := plain _ 0x26 1 rfl rfl fun _ => rfl
theorem andIndLong (dp : Byte) : Statement (.andIndLong dp) := plain _ 0x27 1 rfl rfl fun _ => rfl
theorem andImm (imm : Imm) : Statement (.andImm imm) := m16 _ 0x29 imm rfl rfl (fun _ => rfl) rfl
theorem bitAbs (addr : Word) : Statement (.bitAbs addr) := plain _ 0x2C 2 rfl rfl fun _ => rfl
theorem andAbs (addr : Word) : Statement (.andAbs addr) := plain _ 0x2D 2 rfl rfl fun _ => rfl
theorem rolAbs (addr : Word) : Statement (.rolAbs addr) := plain _ 0x2E 2 rfl rfl fun _ => rfl
theorem andLong (long : Addr) : Statement (.andLong long) := plain _ 0x2F 3 rfl rfl fun _ => rfl
theorem bmi (rel : Byte) : Statement (.bmi rel) := plain _ 0x30 1 rfl rfl fun _ => rfl
theorem andIndY (dp : Byte) : Statement (.andIndY dp) := plain _ 0x31 1 rfl rfl fun _ => rfl
theorem andInd (dp : Byte) : Statement (.andInd dp) := plain _ 0x32 1 rfl rfl fun _ => rfl
theorem andSrIndY (sr : Byte) : Statement (.andSrIndY sr) := plain _ 0x33 1 rfl rfl fun _ => rfl
theorem bitDirX (dp : Byte) : Statement (.bitDirX dp) := plain _ 0x34 1 rfl rfl fun _ => rfl
theorem andDirX (dp : Byte) : Statement (.andDirX dp) := plain _ 0x35 1 rfl rfl fun _ => rfl
theorem rolDirX (dp : Byte) : Statement (.rolDirX dp) := plain _ 0x36 1 rfl rfl fun _ => rfl
theorem andIndLongY (dp : Byte) : Statement (.andIndLongY dp) := plain _ 0x37 1 rfl rfl fun _ => rfl
theorem andAbsY (addr : Word) : Statement (.andAbsY addr) := plain _ 0x39 2 rfl rfl fun _ => rfl
theorem bitAbsX (addr : Word) : Statement (.bitAbsX addr) := plain _ 0x3C 2 rfl rfl fun _ => rfl
theorem andAbsX (addr : Word) : Statement (.andAbsX addr) := plain _ 0x3D 2 rfl rfl fun _ => rfl
theorem rolAbsX (addr : Word) : Statement (.rolAbsX addr) := plain _ 0x3E 2 rfl rfl fun _ => rfl
theorem andLongX (long : Addr) : Statement (.andLongX long) := plain _ 0x3F 3 rfl rfl fun _ => rfl
theorem eorIndX (dp : Byte) : Statement (.eorIndX dp) := plain _ 0x41 1 rfl rfl fun _ => rfl
theorem wdm (sig : Byte) : Statement (.wdm sig) := plain _ 0x42 1 rfl rfl fun _ => rfl
theorem eorSr (sr : Byte) : Statement (.eorSr sr) := plain _ 0x43 1 rfl rfl fun _ => rfl
theorem mvp (dst : Byte) (src : Byte) : Statement (.mvp dst src) := plain _ 0x44 2 rfl rfl fun _ => rfl
theorem eorDir (dp : Byte) : Statement (.eorDir dp) := plain _ 0x45 1 rfl rfl fun _ => rfl
theorem lsrDir (dp : Byte) : Statement (.lsrDir dp) := plain _ 0x46 1 rfl rfl fun _ => rfl
theorem eorIndLong (dp : Byte) : Statement (.eorIndLong dp) := plain _ 0x47 1 rfl rfl fun _ => rfl
theorem eorImm (imm : Imm) : Statement (.eorImm imm) := m16 _ 0x49 imm rfl rfl (fun _ => rfl) rfl
theorem jmpAbs (addr : Word) : Statement (.jmpAbs addr) := plain _ 0x4C 2 rfl rfl fun _ => rfl
theorem eorAbs (addr : Word) : Statement (.eorAbs addr) := plain _ 0x4D 2 rfl rfl fun _ => rfl
theorem lsrAbs (addr : Word) : Statement (.lsrAbs addr) := plain _ 0x4E 2 rfl rfl fun _ => rfl
theorem eorLong (long : Addr) : Statement (.eorLong long) := plain _ 0x4F 3 rfl rfl fun _ => rfl
theorem bvc (rel : Byte) : Statement (.bvc rel) := plain _ 0x50 1 rfl rfl fun _ => rfl
theorem eorIndY (dp : Byte) : Statement (.eorIndY dp) := plain _ 0x51 1 rfl rfl fun _ => rfl
theorem eorInd (dp : Byte) : Statement (.eorInd dp) := plain _ 0x52 1 rfl rfl fun _ => rfl
theorem eorSrIndY (sr : Byte) : Statement (.eorSrIndY sr) := plain _ 0x53 1 rfl rfl fun _ => rfl
theorem mvn (dst : Byte) (src : Byte) : Statement (.mvn dst src) := plain _ 0x54 2 rfl rfl fun _ => rfl
theorem eorDirX (dp : Byte) : Statement (.eorDirX dp) := plain _ 0x55 1 rfl rfl fun _ => rfl
theorem lsrDirX (dp : Byte) : Statement (.lsrDirX dp) := plain _ 0x56 1 rfl rfl fun _ => rfl
theorem eorIndLongY (dp : Byte) : Statement (.eorIndLongY dp) := plain _ 0x57 1 rfl rfl fun _ => rfl
theorem eorAbsY (addr : Word) : Statement (.eorAbsY addr) := plain _ 0x59 2 rfl rfl fun _ => rfl
theorem jmlLong (long : Addr) : Statement (.jmlLong long) := plain _ 0x5C 3 rfl rfl fun _ => rfl
theorem eorAbsX (addr : Word) : Statement (.eorAbsX addr) := plain _ 0x5D 2 rfl rfl fun _ => rfl
theorem lsrAbsX (addr : Word) : Statement (.lsrAbsX addr) := plain _ 0x5E 2 rfl rfl fun _ => rfl
theorem eorLongX (long : Addr) : Statement (.eorLongX long) := plain _ 0x5F 3 rfl rfl fun _ => rfl
theorem adcIndX (dp : Byte) : Statement (.adcIndX dp) := plain _ 0x61 1 rfl rfl fun _ => rfl
theorem per (rel : Word) : Statement (.per rel) := plain _ 0x62 2 rfl rfl fun _ => rfl
theorem adcSr (sr : Byte) : Statement (.adcSr sr) := plain _ 0x63 1 rfl rfl fun _ => rfl
theorem stzDir (dp : Byte) : Statement (.stzDir dp) := plain _ 0x64 1 rfl rfl fun _ => rfl
theorem adcDir (dp : Byte) : Statement (.adcDir dp) := plain _ 0x65 1 rfl rfl fun _ => rfl
theorem rorDir (dp : Byte) : Statement (.rorDir dp) := plain _ 0x66 1 rfl rfl fun _ => rfl
theorem adcIndLong (dp : Byte) : Statement (.adcIndLong dp) := plain _ 0x67 1 rfl rfl fun _ => rfl
theorem adcImm (imm : Imm) : Statement (.adcImm imm) := m16 _ 0x69 imm rfl rfl (fun _ => rfl) rfl
theorem jmpAbsInd (addr : Word) : Statement (.jmpAbsInd addr) := plain _ 0x6C 2 rfl rfl fun _ => rfl
theorem adcAbs (addr : Word) : Statement (.adcAbs addr) := plain _ 0x6D 2 rfl rfl fun _ => rfl
theorem rorAbs (addr : Word) : Statement (.rorAbs addr) := plain _ 0x6E 2 rfl rfl fun _ => rfl
theorem adcLong (long : Addr) : Statement (.adcLong long) := plain _ 0x6F 3 rfl rfl fun _ => rfl
theorem bvs (rel : Byte) : Statement (.bvs rel) := plain _ 0x70 1 rfl rfl fun _ => rfl
theorem adcIndY (dp : Byte) : Statement (.adcIndY dp) := plain _ 0x71 1 rfl rfl fun _ => rfl
theorem adcInd (dp : Byte) : Statement (.adcInd dp) := plain _ 0x72 1 rfl rfl fun _ => rfl
theorem adcSrIndY (sr : Byte) : Statement (.adcSrIndY sr) := plain _ 0x73 1 rfl rfl fun _ => rfl
theorem stzDirX (dp : Byte) : Statement (.stzDirX dp) := plain _ 0x74 1 rfl rfl fun _ => rfl
theorem adcDirX (dp : Byte) : Statement (.adcDirX dp) := plain _ 0x75 1 rfl rfl fun _ => rfl
theorem rorDirX (dp : Byte) : Statement (.rorDirX dp) := plain _ 0x76 1 rfl rfl fun _ => rfl
theorem adcIndLongY (dp : Byte) : Statement (.adcIndLongY dp) := plain _ 0x77 1 rfl rfl fun _ => rfl
theorem adcAbsY (addr : Word) : Statement (.adcAbsY addr) := plain _ 0x79 2 rfl rfl fun _ => rfl
theorem jmpAbsIndX (addr : Word) : Statement (.jmpAbsIndX addr) := plain _ 0x7C 2 rfl rfl fun _ => rfl
theorem adcAbsX (addr : Word) : Statement (.adcAbsX addr) := plain _ 0x7D 2 rfl rfl fun _ => rfl
theorem rorAbsX (addr : Word) : Statement (.rorAbsX addr) := plain _ 0x7E 2 rfl rfl fun _ => rfl
theorem adcLongX (long : Addr) : Statement (.adcLongX long) := plain _ 0x7F 3 rfl rfl fun _ => rfl
theorem bra (rel : Byte) : Statement (.bra rel) := plain _ 0x80 1 rfl rfl fun _ => rfl
theorem staIndX (dp : Byte) : Statement (.staIndX dp) := plain _ 0x81 1 rfl rfl fun _ => rfl
theorem brl (rel : Word) : Statement (.brl rel) := plain _ 0x82 2 rfl rfl fun _ => rfl
theorem staSr (sr : Byte) : Statement (.staSr sr) := plain _ 0x83 1 rfl rfl fun _ => rfl
theorem styDir (dp : Byte) : Statement (.styDir dp) := plain _ 0x84 1 rfl rfl fun _ => rfl
theorem staDir (dp : Byte) : Statement (.staDir dp) := plain _ 0x85 1 rfl rfl fun _ => rfl
theorem stxDir (dp : Byte) : Statement (.stxDir dp) := plain _ 0x86 1 rfl rfl fun _ => rfl
theorem staIndLong (dp : Byte) : Statement (.staIndLong dp) := plain _ 0x87 1 rfl rfl fun _ => rfl
theorem bitImm (imm : Imm) : Statement (.bitImm imm) := m16 _ 0x89 imm rfl rfl (fun _ => rfl) rfl
theorem styAbs (addr : Word) : Statement (.styAbs addr) := plain _ 0x8C 2 rfl rfl fun _ => rfl
theorem staAbs (addr : Word) : Statement (.staAbs addr) := plain _ 0x8D 2 rfl rfl fun _ => rfl
theorem stxAbs (addr : Word) : Statement (.stxAbs addr) := plain _ 0x8E 2 rfl rfl fun _ => rfl
theorem staLong (long : Addr) : Statement (.staLong long) := plain _ 0x8F 3 rfl rfl fun _ => rfl
theorem bcc (rel : Byte) : Statement (.bcc rel) := plain _ 0x90 1 rfl rfl fun _ => rfl
theorem staIndY (dp : Byte) : Statement (.staIndY dp) := plain _ 0x91 1 rfl rfl fun _ => rfl
theorem staInd (dp : Byte) : Statement (.staInd dp) := plain _ 0x92 1 rfl rfl fun _ => rfl
theorem staSrIndY (sr : Byte) : Statement (.staSrIndY sr) := plain _ 0x93 1 rfl rfl fun _ => rfl
theorem styDirX (dp : Byte) : Statement (.styDirX dp) := plain _ 0x94 1 rfl rfl fun _ => rfl
theorem staDirX (dp : Byte) : Statement (.staDirX dp) := plain _ 0x95 1 rfl rfl fun _ => rfl
theorem stxDirY (dp : Byte) : Statement (.stxDirY dp) := plain _ 0x96 1 rfl rfl fun _ => rfl
theorem staIndLongY (dp : Byte) : Statement (.staIndLongY dp) := plain _ 0x97 1 rfl rfl fun _ => rfl
theorem staAbsY (addr : Word) : Statement (.staAbsY addr) := plain _ 0x99 2 rfl rfl fun _ => rfl
theorem stzAbs (addr : Word) : Statement (.stzAbs addr) := plain _ 0x9C 2 rfl rfl fun _ => rfl
theorem staAbsX (addr : Word) : Statement (.staAbsX addr) := plain _ 0x9D 2 rfl rfl fun _ => rfl
theorem stzAbsX (addr : Word) : Statement (.stzAbsX addr) := plain _ 0x9E 2 rfl rfl fun _ => rfl
theorem staLongX (long : Addr) : Statement (.staLongX long) := plain _ 0x9F 3 rfl rfl fun _ => rfl
theorem ldyImm (imm : Imm) : Statement (.ldyImm imm) := x16 _ 0xA0 imm rfl rfl (fun _ => rfl) rfl
theorem ldaIndX (dp : Byte) : Statement (.ldaIndX dp) := plain _ 0xA1 1 rfl rfl fun _ => rfl
theorem ldxImm (imm : Imm) : Statement (.ldxImm imm) := x16 _ 0xA2 imm rfl rfl (fun _ => rfl) rfl
theorem ldaSr (sr : Byte) : Statement (.ldaSr sr) := plain _ 0xA3 1 rfl rfl fun _ => rfl
theorem ldyDir (dp : Byte) : Statement (.ldyDir dp) := plain _ 0xA4 1 rfl rfl fun _ => rfl
theorem ldaDir (dp : Byte) : Statement (.ldaDir dp) := plain _ 0xA5 1 rfl rfl fun _ => rfl
theorem ldxDir (dp : Byte) : Statement (.ldxDir dp) := plain _ 0xA6 1 rfl rfl fun _ => rfl
theorem ldaIndLong (dp : Byte) : Statement (.ldaIndLong dp) := plain _ 0xA7 1 rfl rfl fun _ => rfl
theorem ldaImm (imm : Imm) : Statement (.ldaImm imm) := m16 _ 0xA9 imm rfl rfl (fun _ => rfl) rfl
theorem ldyAbs (addr : Word) : Statement (.ldyAbs addr) := plain _ 0xAC 2 rfl rfl fun _ => rfl
theorem ldaAbs (addr : Word) : Statement (.ldaAbs addr) := plain _ 0xAD 2 rfl rfl fun _ => rfl
theorem ldxAbs (addr : Word) : Statement (.ldxAbs addr) := plain _ 0xAE 2 rfl rfl fun _ => rfl
theorem ldaLong (long : Addr) : Statement (.ldaLong long) := plain _ 0xAF 3 rfl rfl fun _ => rfl
theorem bcs (rel : Byte) : Statement (.bcs rel) := plain _ 0xB0 1 rfl rfl fun _ => rfl
theorem ldaIndY (dp : Byte) : Statement (.ldaIndY dp) := plain _ 0xB1 1 rfl rfl fun _ => rfl
theorem ldaInd (dp : Byte) : Statement (.ldaInd dp) := plain _ 0xB2 1 rfl rfl fun _ => rfl
theorem ldaSrIndY (sr : Byte) : Statement (.ldaSrIndY sr) := plain _ 0xB3 1 rfl rfl fun _ => rfl
theorem ldyDirX (dp : Byte) : Statement (.ldyDirX dp) := plain _ 0xB4 1 rfl rfl fun _ => rfl
theorem ldaDirX (dp : Byte) : Statement (.ldaDirX dp) := plain _ 0xB5 1 rfl rfl fun _ => rfl
theorem ldxDirY (dp : Byte) : Statement (.ldxDirY dp) := plain _ 0xB6 1 rfl rfl fun _ => rfl
theorem ldaIndLongY (dp : Byte) : Statement (.ldaIndLongY dp) := plain _ 0xB7 1 rfl rfl fun _ => rfl
theorem ldaAbsY (addr : Word) : Statement (.ldaAbsY addr) := plain _ 0xB9 2 rfl rfl fun _ => rfl
theorem ldyAbsX (addr : Word) : Statement (.ldyAbsX addr) := plain _ 0xBC 2 rfl rfl fun _ => rfl
theorem ldaAbsX (addr : Word) : Statement (.ldaAbsX addr) := plain _ 0xBD 2 rfl rfl fun _ => rfl
theorem ldxAbsY (addr : Word) : Statement (.ldxAbsY addr) := plain _ 0xBE 2 rfl rfl fun _ => rfl
theorem ldaLongX (long : Addr) : Statement (.ldaLongX long) := plain _ 0xBF 3 rfl rfl fun _ => rfl
theorem cpyImm (imm : Imm) : Statement (.cpyImm imm) := x16 _ 0xC0 imm rfl rfl (fun _ => rfl) rfl
theorem cmpIndX (dp : Byte) : Statement (.cmpIndX dp) := plain _ 0xC1 1 rfl rfl fun _ => rfl
theorem rep (mask : Byte) : Statement (.rep mask) := plain _ 0xC2 1 rfl rfl fun _ => rfl
theorem cmpSr (sr : Byte) : Statement (.cmpSr sr) := plain _ 0xC3 1 rfl rfl fun _ => rfl
theorem cpyDir (dp : Byte) : Statement (.cpyDir dp) := plain _ 0xC4 1 rfl rfl fun _ => rfl
theorem cmpDir (dp : Byte) : Statement (.cmpDir dp) := plain _ 0xC5 1 rfl rfl fun _ => rfl
theorem decDir (dp : Byte) : Statement (.decDir dp) := plain _ 0xC6 1 rfl rfl fun _ => rfl
theorem cmpIndLong (dp : Byte) : Statement (.cmpIndLong dp) := plain _ 0xC7 1 rfl rfl fun _ => rfl
theorem cmpImm (imm : Imm) : Statement (.cmpImm imm) := m16 _ 0xC9 imm rfl rfl (fun _ => rfl) rfl
theorem cpyAbs (addr : Word) : Statement (.cpyAbs addr) := plain _ 0xCC 2 rfl rfl fun _ => rfl
theorem cmpAbs (addr : Word) : Statement (.cmpAbs addr) := plain _ 0xCD 2 rfl rfl fun _ => rfl
theorem decAbs (addr : Word) : Statement (.decAbs addr) := plain _ 0xCE 2 rfl rfl fun _ => rfl
theorem cmpLong (long : Addr) : Statement (.cmpLong long) := plain _ 0xCF 3 rfl rfl fun _ => rfl
theorem bne (rel : Byte) : Statement (.bne rel) := plain _ 0xD0 1 rfl rfl fun _ => rfl
theorem cmpIndY (dp : Byte) : Statement (.cmpIndY dp) := plain _ 0xD1 1 rfl rfl fun _ => rfl
theorem cmpInd (dp : Byte) : Statement (.cmpInd dp) := plain _ 0xD2 1 rfl rfl fun _ => rfl
theorem cmpSrIndY (sr : Byte) : Statement (.cmpSrIndY sr) := plain _ 0xD3 1 rfl rfl fun _ => rfl
theorem pei (dp : Byte) : Statement (.pei dp) := plain _ 0xD4 1 rfl rfl fun _ => rfl
theorem cmpDirX (dp : Byte) : Statement (.cmpDirX dp) := plain _ 0xD5 1 rfl rfl fun _ => rfl
theorem decDirX (dp : Byte) : Statement (.decDirX dp) := plain _ 0xD6 1 rfl rfl fun _ => rfl
theorem cmpIndLongY (dp : Byte) : Statement (.cmpIndLongY dp) := plain _ 0xD7 1 rfl rfl fun _ => rfl
theorem cmpAbsY (addr : Word) : Statement (.cmpAbsY addr) := plain _ 0xD9 2 rfl rfl fun _ => rfl
theorem jmlAbsIndLong (addr : Word) : Statement (.jmlAbsIndLong addr) := plain _ 0xDC 2 rfl rfl fun _ => rfl
theorem cmpAbsX (addr : Word) : Statement (.cmpAbsX addr) := plain _ 0xDD 2 rfl rfl fun _ => rfl
theorem decAbsX (addr : Word) : Statement (.decAbsX addr) := plain _ 0xDE 2 rfl rfl fun _ => rfl
theorem cmpLongX (long : Addr) : Statement (.cmpLongX long) := plain _ 0xDF 3 rfl rfl fun _ => rfl
theorem cpxImm (imm : Imm) : Statement (.cpxImm imm) := x16 _ 0xE0 imm rfl rfl (fun _ => rfl) rfl
theorem sbcIndX (dp : Byte) : Statement (.sbcIndX dp) := plain _ 0xE1 1 rfl rfl fun _ => rfl
theorem sep (mask : Byte) : Statement (.sep mask) := plain _ 0xE2 1 rfl rfl fun _ => rfl
theorem sbcSr (sr : Byte) : Statement (.sbcSr sr) := plain _ 0xE3 1 rfl rfl fun _ => rfl
theorem cpxDir (dp : Byte) : Statement (.cpxDir dp) := plain _ 0xE4 1 rfl rfl fun _ => rfl
theorem sbcDir (dp : Byte) : Statement (.sbcDir dp) := plain _ 0xE5 1 rfl rfl fun _ => rfl
theorem incDir (dp : Byte) : Statement (.incDir dp) := plain _ 0xE6 1 rfl rfl fun _ => rfl
theorem sbcIndLong (dp : Byte) : Statement (.sbcIndLong dp) := plain _ 0xE7 1 rfl rfl fun _ => rfl
theorem sbcImm (imm : Imm) : Statement (.sbcImm imm) := m16 _ 0xE9 imm rfl rfl (fun _ => rfl) rfl
theorem cpxAbs (addr : Word) : Statement (.cpxAbs addr) := plain _ 0xEC 2 rfl rfl fun _ => rfl
theorem sbcAbs (addr : Word) : Statement (.sbcAbs addr) := plain _ 0xED 2 rfl rfl fun _ => rfl
theorem incAbs (addr : Word) : Statement (.incAbs addr) := plain _ 0xEE 2 rfl rfl fun _ => rfl
theorem sbcLong (long : Addr) : Statement (.sbcLong long) := plain _ 0xEF 3 rfl rfl fun _ => rfl
theorem beq (rel : Byte) : Statement (.beq rel) := plain _ 0xF0 1 rfl rfl fun _ => rfl
theorem sbcIndY (dp : Byte) : Statement (.sbcIndY dp) := plain _ 0xF1 1 rfl rfl fun _ => rfl
theorem sbcInd (dp : Byte) : Statement (.sbcInd dp) := plain _ 0xF2 1 rfl rfl fun _ => rfl
theorem sbcSrIndY (sr : Byte) : Statement (.sbcSrIndY sr) := plain _ 0xF3 1 rfl rfl fun _ => rfl
theorem pea (addr : Word) : Statement (.pea addr) := plain _ 0xF4 2 rfl rfl fun _ => rfl
theorem sbcDirX (dp : Byte) : Statement (.sbcDirX dp) := plain _ 0xF5 1 rfl rfl fun _ => rfl
theorem incDirX (dp : Byte) : Statement (.incDirX dp) := plain _ 0xF6 1 rfl rfl fun _ => rfl
theorem sbcIndLongY (dp : Byte) : Statement (.sbcIndLongY dp) := plain _ 0xF7 1 rfl rfl fun _ => rfl
theorem sbcAbsY (addr : Word) : Statement (.sbcAbsY addr) := plain _ 0xF9 2 rfl rfl fun _ => rfl
theorem jsrAbsIndX (addr : Word) : Statement (.jsrAbsIndX addr) := plain _ 0xFC 2 rfl rfl fun _ => rfl
theorem sbcAbsX (addr : Word) : Statement (.sbcAbsX addr) := plain _ 0xFD 2 rfl rfl fun _ => rfl
theorem incAbsX (addr : Word) : Statement (.incAbsX addr) := plain _ 0xFE 2 rfl rfl fun _ => rfl
theorem sbcLongX (long : Addr) : Statement (.sbcLongX long) := plain _ 0xFF 3 rfl rfl fun _ => rfl
theorem php : Statement .php := plain _ 0x08 0 rfl rfl fun _ => rfl
theorem aslAcc : Statement .aslAcc := plain _ 0x0A 0 rfl rfl fun _ => rfl
theorem phd : Statement .phd := plain _ 0x0B 0 rfl rfl fun _ => rfl
theorem clc : Statement .clc := plain _ 0x18 0 rfl rfl fun _ => rfl
theorem incAcc : Statement .incAcc := plain _ 0x1A 0 rfl rfl fun _ => rfl
theorem tcs : Statement .tcs := plain _ 0x1B 0 rfl rfl fun _ => rfl
theorem plp : Statement .plp := plain _ 0x28 0 rfl rfl fun _ => rfl
theorem rolAcc : Statement .rolAcc := plain _ 0x2A 0 rfl rfl fun _ => rfl
theorem pld : Statement .pld := plain _ 0x2B 0 rfl rfl fun _ => rfl
theorem sec : Statement .sec := plain _ 0x38 0 rfl rfl fun _ => rfl
theorem decAcc : Statement .decAcc := plain _ 0x3A 0 rfl rfl fun _ => rfl
theorem tsc : Statement .tsc := plain _ 0x3B 0 rfl rfl fun _ => rfl
theorem rti : Statement .rti := plain _ 0x40 0 rfl rfl fun _ => rfl
theorem pha : Statement .pha := plain _ 0x48 0 rfl rfl fun _ => rfl
theorem lsrAcc : Statement .lsrAcc := plain _ 0x4A 0 rfl rfl fun _ => rfl
theorem phk : Statement .phk := plain _ 0x4B 0 rfl rfl fun _ => rfl
theorem cli : Statement .cli := plain _ 0x58 0 rfl rfl fun _ => rfl
theorem phy : Statement .phy := plain _ 0x5A 0 rfl rfl fun _ => rfl
theorem tcd : Statement .tcd := plain _ 0x5B 0 rfl rfl fun _ => rfl
theorem rts : Statement .rts := plain _ 0x60 0 rfl rfl fun _ => rfl
theorem pla : Statement .pla := plain _ 0x68 0 rfl rfl fun _ => rfl
theorem rorAcc : Statement .rorAcc := plain _ 0x6A 0 rfl rfl fun _ => rfl
theorem rtl : Statement .rtl := plain _ 0x6B 0 rfl rfl fun _ => rfl
theorem sei : Statement .sei := plain _ 0x78 0 rfl rfl fun _ => rfl
theorem ply : Statement .ply := plain _ 0x7A 0 rfl rfl fun _ => rfl
theorem tdc : Statement .tdc := plain _ 0x7B 0 rfl rfl fun _ => rfl
theorem dey : Statement .dey := plain _ 0x88 0 rfl rfl fun _ => rfl
theorem txa : Statement .txa := plain _ 0x8A 0 rfl rfl fun _ => rfl
theorem phb : Statement .phb := plain _ 0x8B 0 rfl rfl fun _ => rfl
theorem tya : Statement .tya := plain _ 0x98 0 rfl rfl fun _ => rfl
theorem txs : Statement .txs := plain _ 0x9A 0 rfl rfl fun _ => rfl
theorem txy : Statement .txy := plain _ 0x9B 0 rfl rfl fun _ => rfl
theorem tay : Statement .tay := plain _ 0xA8 0 rfl rfl fun _ => rfl
theorem tax : Statement .tax := plain _ 0xAA 0 rfl rfl fun _ => rfl
theorem plb : Statement .plb := plain _ 0xAB 0 rfl rfl fun _ => rfl
theorem clv : Statement .clv := plain _ 0xB8 0 rfl rfl fun _ => rfl
theorem tsx : Statement .tsx := plain _ 0xBA 0 rfl rfl fun _ => rfl
theorem tyx : Statement .tyx := plain _ 0xBB 0 rfl rfl fun _ => rfl
theorem iny : Statement .iny := plain _ 0xC8 0 rfl rfl fun _ => rfl
theorem dex : Statement .dex := plain _ 0xCA 0 rfl rfl fun _ => rfl
theorem wai : Statement .wai := plain _ 0xCB 0 rfl rfl fun _ => rfl
theorem cld : Statement .cld := plain _ 0xD8 0 rfl rfl fun _ => rfl
theorem phx : Statement .phx := plain _ 0xDA 0 rfl rfl fun _ => rfl
theorem stp : Statement .stp := plain _ 0xDB 0 rfl rfl fun _ => rfl
theorem inx : Statement .inx := plain _ 0xE8 0 rfl rfl fun _ => rfl
theorem nop : Statement .nop := plain _ 0xEA 0 rfl rfl fun _ => rfl
theorem xba : Statement .xba := plain _ 0xEB 0 rfl rfl fun _ => rfl
theorem sed : Statement .sed := plain _ 0xF8 0 rfl rfl fun _ => rfl
theorem plx : Statement .plx := plain _ 0xFA 0 rfl rfl fun _ => rfl
theorem xce : Statement .xce := plain _ 0xFB 0 rfl rfl fun _ => rfl

end Sys2Proof.Laws.EncodedLength
end

