-- ==== Sys2Proof/Tests/Slice0.lean ====
section
/-! SUPPORT. Tests. Expected values come from spec/: the records of 30_encoding.md R156 for decoding, the vectors of
95_test_vectors.md for single steps (their names stand in the theorems' names), and the rules cited. The last part shows, for every
statement with hypotheses, a state and operands that meet them. -/

namespace Sys2Proof.Tests
open Sys2Proof.Machine Sys2Proof.Claims

set_option Elab.async false

/-! ## Ill-formed immediates: one byte where the width state asks for two, and the other way round (R138) -/

/-- The width states of the twelve checks: all wide, all narrow. -/
def wide : Widths := ⟨true, true⟩

/-- The narrow width state. -/
def narrow : Widths := ⟨false, false⟩

theorem test_illFormed_oraImm : Instr.wellFormed wide (.oraImm (.byte 0x12)) = false ∧
    Instr.wellFormed narrow (.oraImm (.word 0x1234)) = false := by decide

theorem test_illFormed_andImm : Instr.wellFormed wide (.andImm (.byte 0x12)) = false ∧
    Instr.wellFormed narrow (.andImm (.word 0x1234)) = false := by decide

theorem test_illFormed_eorImm : Instr.wellFormed wide (.eorImm (.byte 0x12)) = false ∧
    Instr.wellFormed narrow (.eorImm (.word 0x1234)) = false := by decide

theorem test_illFormed_adcImm : Instr.wellFormed wide (.adcImm (.byte 0x12)) = false ∧
    Instr.wellFormed narrow (.adcImm (.word 0x1234)) = false := by decide

theorem test_illFormed_bitImm : Instr.wellFormed wide (.bitImm (.byte 0x12)) = false ∧
    Instr.wellFormed narrow (.bitImm (.word 0x1234)) = false := by decide

theorem test_illFormed_ldyImm : Instr.wellFormed wide (.ldyImm (.byte 0x12)) = false ∧
    Instr.wellFormed narrow (.ldyImm (.word 0x1234)) = false := by decide

theorem test_illFormed_ldxImm : Instr.wellFormed wide (.ldxImm (.byte 0x12)) = false ∧
    Instr.wellFormed narrow (.ldxImm (.word 0x1234)) = false := by decide

theorem test_illFormed_ldaImm : Instr.wellFormed wide (.ldaImm (.byte 0x12)) = false ∧
    Instr.wellFormed narrow (.ldaImm (.word 0x1234)) = false := by decide

theorem test_illFormed_cpyImm : Instr.wellFormed wide (.cpyImm (.byte 0x12)) = false ∧
    Instr.wellFormed narrow (.cpyImm (.word 0x1234)) = false := by decide

theorem test_illFormed_cmpImm : Instr.wellFormed wide (.cmpImm (.byte 0x12)) = false ∧
    Instr.wellFormed narrow (.cmpImm (.word 0x1234)) = false := by decide

theorem test_illFormed_cpxImm : Instr.wellFormed wide (.cpxImm (.byte 0x12)) = false ∧
    Instr.wellFormed narrow (.cpxImm (.word 0x1234)) = false := by decide

theorem test_illFormed_sbcImm : Instr.wellFormed wide (.sbcImm (.byte 0x12)) = false ∧
    Instr.wellFormed narrow (.sbcImm (.word 0x1234)) = false := by decide

/-! ## Decoding: every opcode byte of R156, with operand bytes 12, 34, 56 in fetch order (R137) -/

/-- Each list of bytes decodes, in a width state, to the instruction beside it, and nothing is left. -/
def decodes (w : Widths) (l : List (List Byte × Instr)) : Bool := l.all fun t => decide (decode w t.1 = .ok (t.2, []))

theorem test_decode_row0 : decodes narrow [
    ([0x00, 0x12], .brk 0x12), ([0x01, 0x12], .oraIndX 0x12), ([0x02, 0x12], .cop 0x12), ([0x03, 0x12], .oraSr 0x12),
    ([0x04, 0x12], .tsbDir 0x12), ([0x05, 0x12], .oraDir 0x12), ([0x06, 0x12], .aslDir 0x12), ([0x07, 0x12], .oraIndLong 0x12),
    ([0x08], .php), ([0x09, 0x12], .oraImm (.byte 0x12)), ([0x0A], .aslAcc), ([0x0B], .phd),
    ([0x0C, 0x12, 0x34], .tsbAbs 0x3412), ([0x0D, 0x12, 0x34], .oraAbs 0x3412), ([0x0E, 0x12, 0x34], .aslAbs 0x3412), ([0x0F, 0x12, 0x34, 0x56], .oraLong 0x563412)] = true := by decide +kernel

theorem test_decode_row1 : decodes narrow [
    ([0x10, 0x12], .bpl 0x12), ([0x11, 0x12], .oraIndY 0x12), ([0x12, 0x12], .oraInd 0x12), ([0x13, 0x12], .oraSrIndY 0x12),
    ([0x14, 0x12], .trbDir 0x12), ([0x15, 0x12], .oraDirX 0x12), ([0x16, 0x12], .aslDirX 0x12), ([0x17, 0x12], .oraIndLongY 0x12),
    ([0x18], .clc), ([0x19, 0x12, 0x34], .oraAbsY 0x3412), ([0x1A], .incAcc), ([0x1B], .tcs),
    ([0x1C, 0x12, 0x34], .trbAbs 0x3412), ([0x1D, 0x12, 0x34], .oraAbsX 0x3412), ([0x1E, 0x12, 0x34], .aslAbsX 0x3412), ([0x1F, 0x12, 0x34, 0x56], .oraLongX 0x563412)] = true := by decide +kernel

theorem test_decode_row2 : decodes narrow [
    ([0x20, 0x12, 0x34], .jsrAbs 0x3412), ([0x21, 0x12], .andIndX 0x12), ([0x22, 0x12, 0x34, 0x56], .jsl 0x563412), ([0x23, 0x12], .andSr 0x12),
    ([0x24, 0x12], .bitDir 0x12), ([0x25, 0x12], .andDir 0x12), ([0x26, 0x12], .rolDir 0x12), ([0x27, 0x12], .andIndLong 0x12),
    ([0x28], .plp), ([0x29, 0x12], .andImm (.byte 0x12)), ([0x2A], .rolAcc), ([0x2B], .pld),
    ([0x2C, 0x12, 0x34], .bitAbs 0x3412), ([0x2D, 0x12, 0x34], .andAbs 0x3412), ([0x2E, 0x12, 0x34], .rolAbs 0x3412), ([0x2F, 0x12, 0x34, 0x56], .andLong 0x563412)] = true := by decide +kernel

theorem test_decode_row3 : decodes narrow [
    ([0x30, 0x12], .bmi 0x12), ([0x31, 0x12], .andIndY 0x12), ([0x32, 0x12], .andInd 0x12), ([0x33, 0x12], .andSrIndY 0x12),
    ([0x34, 0x12], .bitDirX 0x12), ([0x35, 0x12], .andDirX 0x12), ([0x36, 0x12], .rolDirX 0x12), ([0x37, 0x12], .andIndLongY 0x12),
    ([0x38], .sec), ([0x39, 0x12, 0x34], .andAbsY 0x3412), ([0x3A], .decAcc), ([0x3B], .tsc),
    ([0x3C, 0x12, 0x34], .bitAbsX 0x3412), ([0x3D, 0x12, 0x34], .andAbsX 0x3412), ([0x3E, 0x12, 0x34], .rolAbsX 0x3412), ([0x3F, 0x12, 0x34, 0x56], .andLongX 0x563412)] = true := by decide +kernel

theorem test_decode_row4 : decodes narrow [
    ([0x40], .rti), ([0x41, 0x12], .eorIndX 0x12), ([0x42, 0x12], .wdm 0x12), ([0x43, 0x12], .eorSr 0x12),
    ([0x44, 0x12, 0x34], .mvp 0x12 0x34), ([0x45, 0x12], .eorDir 0x12), ([0x46, 0x12], .lsrDir 0x12), ([0x47, 0x12], .eorIndLong 0x12),
    ([0x48], .pha), ([0x49, 0x12], .eorImm (.byte 0x12)), ([0x4A], .lsrAcc), ([0x4B], .phk),
    ([0x4C, 0x12, 0x34], .jmpAbs 0x3412), ([0x4D, 0x12, 0x34], .eorAbs 0x3412), ([0x4E, 0x12, 0x34], .lsrAbs 0x3412), ([0x4F, 0x12, 0x34, 0x56], .eorLong 0x563412)] = true := by decide +kernel

theorem test_decode_row5 : decodes narrow [
    ([0x50, 0x12], .bvc 0x12), ([0x51, 0x12], .eorIndY 0x12), ([0x52, 0x12], .eorInd 0x12), ([0x53, 0x12], .eorSrIndY 0x12),
    ([0x54, 0x12, 0x34], .mvn 0x12 0x34), ([0x55, 0x12], .eorDirX 0x12), ([0x56, 0x12], .lsrDirX 0x12), ([0x57, 0x12], .eorIndLongY 0x12),
    ([0x58], .cli), ([0x59, 0x12, 0x34], .eorAbsY 0x3412), ([0x5A], .phy), ([0x5B], .tcd),
    ([0x5C, 0x12, 0x34, 0x56], .jmlLong 0x563412), ([0x5D, 0x12, 0x34], .eorAbsX 0x3412), ([0x5E, 0x12, 0x34], .lsrAbsX 0x3412), ([0x5F, 0x12, 0x34, 0x56], .eorLongX 0x563412)] = true := by decide +kernel

theorem test_decode_row6 : decodes narrow [
    ([0x60], .rts), ([0x61, 0x12], .adcIndX 0x12), ([0x62, 0x12, 0x34], .per 0x3412), ([0x63, 0x12], .adcSr 0x12),
    ([0x64, 0x12], .stzDir 0x12), ([0x65, 0x12], .adcDir 0x12), ([0x66, 0x12], .rorDir 0x12), ([0x67, 0x12], .adcIndLong 0x12),
    ([0x68], .pla), ([0x69, 0x12], .adcImm (.byte 0x12)), ([0x6A], .rorAcc), ([0x6B], .rtl),
    ([0x6C, 0x12, 0x34], .jmpAbsInd 0x3412), ([0x6D, 0x12, 0x34], .adcAbs 0x3412), ([0x6E, 0x12, 0x34], .rorAbs 0x3412), ([0x6F, 0x12, 0x34, 0x56], .adcLong 0x563412)] = true := by decide +kernel

theorem test_decode_row7 : decodes narrow [
    ([0x70, 0x12], .bvs 0x12), ([0x71, 0x12], .adcIndY 0x12), ([0x72, 0x12], .adcInd 0x12), ([0x73, 0x12], .adcSrIndY 0x12),
    ([0x74, 0x12], .stzDirX 0x12), ([0x75, 0x12], .adcDirX 0x12), ([0x76, 0x12], .rorDirX 0x12), ([0x77, 0x12], .adcIndLongY 0x12),
    ([0x78], .sei), ([0x79, 0x12, 0x34], .adcAbsY 0x3412), ([0x7A], .ply), ([0x7B], .tdc),
    ([0x7C, 0x12, 0x34], .jmpAbsIndX 0x3412), ([0x7D, 0x12, 0x34], .adcAbsX 0x3412), ([0x7E, 0x12, 0x34], .rorAbsX 0x3412), ([0x7F, 0x12, 0x34, 0x56], .adcLongX 0x563412)] = true := by decide +kernel

theorem test_decode_row8 : decodes narrow [
    ([0x80, 0x12], .bra 0x12), ([0x81, 0x12], .staIndX 0x12), ([0x82, 0x12, 0x34], .brl 0x3412), ([0x83, 0x12], .staSr 0x12),
    ([0x84, 0x12], .styDir 0x12), ([0x85, 0x12], .staDir 0x12), ([0x86, 0x12], .stxDir 0x12), ([0x87, 0x12], .staIndLong 0x12),
    ([0x88], .dey), ([0x89, 0x12], .bitImm (.byte 0x12)), ([0x8A], .txa), ([0x8B], .phb),
    ([0x8C, 0x12, 0x34], .styAbs 0x3412), ([0x8D, 0x12, 0x34], .staAbs 0x3412), ([0x8E, 0x12, 0x34], .stxAbs 0x3412), ([0x8F, 0x12, 0x34, 0x56], .staLong 0x563412)] = true := by decide +kernel

theorem test_decode_row9 : decodes narrow [
    ([0x90, 0x12], .bcc 0x12), ([0x91, 0x12], .staIndY 0x12), ([0x92, 0x12], .staInd 0x12), ([0x93, 0x12], .staSrIndY 0x12),
    ([0x94, 0x12], .styDirX 0x12), ([0x95, 0x12], .staDirX 0x12), ([0x96, 0x12], .stxDirY 0x12), ([0x97, 0x12], .staIndLongY 0x12),
    ([0x98], .tya), ([0x99, 0x12, 0x34], .staAbsY 0x3412), ([0x9A], .txs), ([0x9B], .txy),
    ([0x9C, 0x12, 0x34], .stzAbs 0x3412), ([0x9D, 0x12, 0x34], .staAbsX 0x3412), ([0x9E, 0x12, 0x34], .stzAbsX 0x3412), ([0x9F, 0x12, 0x34, 0x56], .staLongX 0x563412)] = true := by decide +kernel

theorem test_decode_rowA : decodes narrow [
    ([0xA0, 0x12], .ldyImm (.byte 0x12)), ([0xA1, 0x12], .ldaIndX 0x12), ([0xA2, 0x12], .ldxImm (.byte 0x12)), ([0xA3, 0x12], .ldaSr 0x12),
    ([0xA4, 0x12], .ldyDir 0x12), ([0xA5, 0x12], .ldaDir 0x12), ([0xA6, 0x12], .ldxDir 0x12), ([0xA7, 0x12], .ldaIndLong 0x12),
    ([0xA8], .tay), ([0xA9, 0x12], .ldaImm (.byte 0x12)), ([0xAA], .tax), ([0xAB], .plb),
    ([0xAC, 0x12, 0x34], .ldyAbs 0x3412), ([0xAD, 0x12, 0x34], .ldaAbs 0x3412), ([0xAE, 0x12, 0x34], .ldxAbs 0x3412), ([0xAF, 0x12, 0x34, 0x56], .ldaLong 0x563412)] = true := by decide +kernel

theorem test_decode_rowB : decodes narrow [
    ([0xB0, 0x12], .bcs 0x12), ([0xB1, 0x12], .ldaIndY 0x12), ([0xB2, 0x12], .ldaInd 0x12), ([0xB3, 0x12], .ldaSrIndY 0x12),
    ([0xB4, 0x12], .ldyDirX 0x12), ([0xB5, 0x12], .ldaDirX 0x12), ([0xB6, 0x12], .ldxDirY 0x12), ([0xB7, 0x12], .ldaIndLongY 0x12),
    ([0xB8], .clv), ([0xB9, 0x12, 0x34], .ldaAbsY 0x3412), ([0xBA], .tsx), ([0xBB], .tyx),
    ([0xBC, 0x12, 0x34], .ldyAbsX 0x3412), ([0xBD, 0x12, 0x34], .ldaAbsX 0x3412), ([0xBE, 0x12, 0x34], .ldxAbsY 0x3412), ([0xBF, 0x12, 0x34, 0x56], .ldaLongX 0x563412)] = true := by decide +kernel

theorem test_decode_rowC : decodes narrow [
    ([0xC0, 0x12], .cpyImm (.byte 0x12)), ([0xC1, 0x12], .cmpIndX 0x12), ([0xC2, 0x12], .rep 0x12), ([0xC3, 0x12], .cmpSr 0x12),
    ([0xC4, 0x12], .cpyDir 0x12), ([0xC5, 0x12], .cmpDir 0x12), ([0xC6, 0x12], .decDir 0x12), ([0xC7, 0x12], .cmpIndLong 0x12),
    ([0xC8], .iny), ([0xC9, 0x12], .cmpImm (.byte 0x12)), ([0xCA], .dex), ([0xCB], .wai),
    ([0xCC, 0x12, 0x34], .cpyAbs 0x3412), ([0xCD, 0x12, 0x34], .cmpAbs 0x3412), ([0xCE, 0x12, 0x34], .decAbs 0x3412), ([0xCF, 0x12, 0x34, 0x56], .cmpLong 0x563412)] = true := by decide +kernel

theorem test_decode_rowD : decodes narrow [
    ([0xD0, 0x12], .bne 0x12), ([0xD1, 0x12], .cmpIndY 0x12), ([0xD2, 0x12], .cmpInd 0x12), ([0xD3, 0x12], .cmpSrIndY 0x12),
    ([0xD4, 0x12], .pei 0x12), ([0xD5, 0x12], .cmpDirX 0x12), ([0xD6, 0x12], .decDirX 0x12), ([0xD7, 0x12], .cmpIndLongY 0x12),
    ([0xD8], .cld), ([0xD9, 0x12, 0x34], .cmpAbsY 0x3412), ([0xDA], .phx), ([0xDB], .stp),
    ([0xDC, 0x12, 0x34], .jmlAbsIndLong 0x3412), ([0xDD, 0x12, 0x34], .cmpAbsX 0x3412), ([0xDE, 0x12, 0x34], .decAbsX 0x3412), ([0xDF, 0x12, 0x34, 0x56], .cmpLongX 0x563412)] = true := by decide +kernel

theorem test_decode_rowE : decodes narrow [
    ([0xE0, 0x12], .cpxImm (.byte 0x12)), ([0xE1, 0x12], .sbcIndX 0x12), ([0xE2, 0x12], .sep 0x12), ([0xE3, 0x12], .sbcSr 0x12),
    ([0xE4, 0x12], .cpxDir 0x12), ([0xE5, 0x12], .sbcDir 0x12), ([0xE6, 0x12], .incDir 0x12), ([0xE7, 0x12], .sbcIndLong 0x12),
    ([0xE8], .inx), ([0xE9, 0x12], .sbcImm (.byte 0x12)), ([0xEA], .nop), ([0xEB], .xba),
    ([0xEC, 0x12, 0x34], .cpxAbs 0x3412), ([0xED, 0x12, 0x34], .sbcAbs 0x3412), ([0xEE, 0x12, 0x34], .incAbs 0x3412), ([0xEF, 0x12, 0x34, 0x56], .sbcLong 0x563412)] = true := by decide +kernel

theorem test_decode_rowF : decodes narrow [
    ([0xF0, 0x12], .beq 0x12), ([0xF1, 0x12], .sbcIndY 0x12), ([0xF2, 0x12], .sbcInd 0x12), ([0xF3, 0x12], .sbcSrIndY 0x12),
    ([0xF4, 0x12, 0x34], .pea 0x3412), ([0xF5, 0x12], .sbcDirX 0x12), ([0xF6, 0x12], .incDirX 0x12), ([0xF7, 0x12], .sbcIndLongY 0x12),
    ([0xF8], .sed), ([0xF9, 0x12, 0x34], .sbcAbsY 0x3412), ([0xFA], .plx), ([0xFB], .xce),
    ([0xFC, 0x12, 0x34], .jsrAbsIndX 0x3412), ([0xFD, 0x12, 0x34], .sbcAbsX 0x3412), ([0xFE, 0x12, 0x34], .incAbsX 0x3412), ([0xFF, 0x12, 0x34, 0x56], .sbcLongX 0x563412)] = true := by decide +kernel

theorem test_decode_wideImmediates : decodes wide [
    ([0x09, 0x12, 0x34], .oraImm (.word 0x3412)), ([0x29, 0x12, 0x34], .andImm (.word 0x3412)), ([0x49, 0x12, 0x34], .eorImm (.word 0x3412)), ([0x69, 0x12, 0x34], .adcImm (.word 0x3412)),
    ([0x89, 0x12, 0x34], .bitImm (.word 0x3412)), ([0xA0, 0x12, 0x34], .ldyImm (.word 0x3412)), ([0xA2, 0x12, 0x34], .ldxImm (.word 0x3412)), ([0xA9, 0x12, 0x34], .ldaImm (.word 0x3412)),
    ([0xC0, 0x12, 0x34], .cpyImm (.word 0x3412)), ([0xC9, 0x12, 0x34], .cmpImm (.word 0x3412)), ([0xE0, 0x12, 0x34], .cpxImm (.word 0x3412)), ([0xE9, 0x12, 0x34], .sbcImm (.word 0x3412))] = true := by decide +kernel

/-- Bytes that end inside an instruction, and no bytes, are refused by name. -/
theorem test_decode_truncated : decode wide [0xA9, 0x12] = .error (.truncated 0xA9) ∧ decode wide [] = .error .empty := by decide

/-! ## Single steps (95_test_vectors.md section 3) -/

/-- The status with the flags of a byte (R32). -/
def status (e : Bool) (v : Byte) : Status where
  n := v.getLsbD 7
  v := v.getLsbD 6
  m := v.getLsbD 5
  x := v.getLsbD 4
  d := v.getLsbD 3
  i := v.getLsbD 2
  z := v.getLsbD 1
  c := v.getLsbD 0
  e := e

/-- The registers the vectors start from, but for those they name. -/
def regs (p : Status) : Cpu where
  a := 0
  x := 0
  y := 0
  s := 0x01FF
  d := 0
  db := 0
  pb := 0
  pc := 0x8000
  p := p

/-- Registers in native mode with a status byte. -/
def native (v : Byte) : Cpu := regs (status false v)

/-- Registers in emulation mode with a status byte. -/
def emulation (v : Byte) : Cpu := regs (status true v)

/-- A HiROM cartridge of 4 MB, empty. -/
def hiRom : Cartridge := ⟨false, false, [], 0x400000, [], []⟩

/-- A LoROM cartridge of 4 MB, empty. -/
def loRom : Cartridge := ⟨true, false, [], 0x400000, [], []⟩

/-- A bus with a cartridge and bytes placed at addresses. -/
def busWith (cart : Cartridge) (mem : List (Nat × Byte)) : Bus :=
  mem.foldl (fun b c => b.pokeAt (BitVec.ofNat 24 c.1) c.2) { State.reset.bus with cart := some cart }

/-- A machine about to execute: registers, bytes from PC on, other bytes of memory, inputs. -/
def machine (c : Cpu) (code : List Byte) (mem : List (Nat × Byte)) (inputs : List BoundaryInput) : State :=
  let at_ := (addr24 c.pb c.pc).toNat
  { State.reset with
    cpu := c, inputs := inputs
    bus := busWith hiRom (mem ++ (List.range code.length).map fun k => (at_ + k, code.getD k 0)) }

/-- The byte an address reaches. -/
def peek (s : State) (a : Nat) : Option Byte := (s.bus.locate (BitVec.ofNat 24 a)).map s.bus.cellByte

/-- One step from `s` ends with the registers `c`, the cycles counted and the bytes stored. -/
def stepEnds (s : State) (c : Cpu) (cycles : Nat) (stored : List (Nat × Byte)) : Bool :=
  match step s with
  | .next t => decide (t.cpu = c) && decide (t.cycles = cycles) && stored.all fun k => decide (peek t k.1 = some k.2)
  | _ => false

theorem test_va1_ldaDir :
    let c := { native 0x20 with d := 0x1200 }
    stepEnds (machine c [0xA5, 0x10] [(0x001210, 0x5A)] []) { c with a := 0x005A, pc := 0x8002 } 4 [] = true := by decide +kernel

theorem test_va2_ldaDirX :
    let c := { emulation 0x30 with x := 0x0002, d := 0x0100 }
    stepEnds (machine c [0xB5, 0xFF] [(0x000101, 0x77), (0x000201, 0x99)] []) { c with a := 0x0077, pc := 0x8002 } 5 [] = true := by decide +kernel

theorem test_va3_ldaDirX :
    let c := { native 0x20 with x := 0x0002, d := 0x0100 }
    stepEnds (machine c [0xB5, 0xFF] [(0x000101, 0x77), (0x000201, 0x99)] []) { c with a := 0x0099, pc := 0x8002, p := status false 0xA0 } 5 [] = true := by decide +kernel

theorem test_va4_ldaAbsX :
    let c := { native 0x20 with x := 0x0001, db := 0x12 }
    stepEnds (machine c [0xBD, 0xFF, 0xFF] [(0x130000, 0x42)] []) { c with a := 0x0042, pc := 0x8003 } 5 [] = true := by decide +kernel

theorem test_va5_ldaIndY :
    let c := { native 0x00 with y := 0x0004, db := 0x7E }
    stepEnds (machine c [0xB1, 0x20] [(0x000020, 0x00), (0x000021, 0x90), (0x7E9004, 0x34), (0x7E9005, 0x12)] []) { c with a := 0x1234, pc := 0x8002 } 7 [] = true := by decide +kernel

theorem test_va6_ldaIndLong :
    let c := native 0x20
    stepEnds (machine c [0xA7, 0x30] [(0x000030, 0x00), (0x000031, 0x80), (0x000032, 0x05), (0x058000, 0xC3)] []) { c with a := 0x00C3, pc := 0x8002, p := status false 0xA0 } 6 [] = true := by decide +kernel

theorem test_va7_ldaIndLongY :
    let c := { native 0x20 with y := 0x0010 }
    stepEnds (machine c [0xB7, 0x30] [(0x000030, 0xF8), (0x000031, 0xFF), (0x000032, 0x05), (0x060008, 0x11)] []) { c with a := 0x0011, pc := 0x8002 } 6 [] = true := by decide +kernel

theorem test_va9_ldaSr :
    let c := { native 0x20 with s := 0x01F0 }
    stepEnds (machine c [0xA3, 0x03] [(0x0001F3, 0xAB)] []) { c with a := 0x00AB, pc := 0x8002, p := status false 0xA0 } 4 [] = true := by decide +kernel

theorem test_va11_ldaLongX :
    let c := { native 0x20 with x := 0x0001 }
    stepEnds (machine c [0xBF, 0xFF, 0xFF, 0x12] [(0x130000, 0x21)] []) { c with a := 0x0021, pc := 0x8004 } 5 [] = true := by decide +kernel

theorem test_va12_ldaAbs :
    let c := { native 0x00 with db := 0x12 }
    stepEnds (machine c [0xAD, 0xFF, 0xFF] [(0x12FFFF, 0xCD), (0x130000, 0xAB)] []) { c with a := 0xABCD, pc := 0x8003, p := status false 0x80 } 5 [] = true := by decide +kernel

theorem test_va13_ldxDirY :
    let c := { native 0x10 with y := 0x0020 }
    stepEnds (machine c [0xB6, 0xF0] [(0x000010, 0x7F), (0x000110, 0x80)] []) { c with x := 0x0080, pc := 0x8002, p := status false 0x90 } 4 [] = true := by decide +kernel

theorem test_vl1_ldaImm :
    let c := { native 0x20 with a := 0x1234 }
    stepEnds (machine c [0xA9, 0x80] [] []) { c with a := 0x1280, pc := 0x8002, p := status false 0xA0 } 2 [] = true := by decide +kernel

theorem test_vl2_ldaImm :
    let c := { native 0x00 with a := 0x1234 }
    stepEnds (machine c [0xA9, 0x00, 0x00] [] []) { c with a := 0x0000, pc := 0x8003, p := status false 0x02 } 3 [] = true := by decide +kernel

theorem test_vl4_ldxImm :
    let c := native 0x00
    stepEnds (machine c [0xA2, 0xFF, 0x1F] [] []) { c with x := 0x1FFF, pc := 0x8003 } 3 [] = true := by decide +kernel

theorem test_vl5_ldxImm :
    let c := native 0x10
    stepEnds (machine c [0xA2, 0xFF] [] []) { c with x := 0x00FF, pc := 0x8002, p := status false 0x90 } 2 [] = true := by decide +kernel

theorem test_vl6_staAbs :
    let c := { native 0x00 with a := 0xBEEF, db := 0x7E }
    stepEnds (machine c [0x8D, 0x00, 0x20] [] []) { c with pc := 0x8003 } 5 [(0x7E2000, 0xEF), (0x7E2001, 0xBE)] = true := by decide +kernel

theorem test_vl7_stzDir :
    let c := native 0x20
    stepEnds (machine c [0x64, 0x10] [(0x000010, 0xFF), (0x000011, 0xEE)] []) { c with pc := 0x8002 } 3 [(0x000010, 0x00), (0x000011, 0xEE)] = true := by decide +kernel

theorem test_vl8_tax :
    let c := { native 0x10 with a := 0xABCD }
    stepEnds (machine c [0xAA] [] []) { c with x := 0x00CD, pc := 0x8001, p := status false 0x90 } 2 [] = true := by decide +kernel

theorem test_vl9_tax :
    let c := { native 0x20 with a := 0x00CD }
    stepEnds (machine c [0xAA] [] []) { c with x := 0x00CD, pc := 0x8001 } 2 [] = true := by decide +kernel

theorem test_vl10_txa :
    let c := { native 0x20 with a := 0x1200, x := 0x0034 }
    stepEnds (machine c [0x8A] [] []) { c with a := 0x1234, pc := 0x8001 } 2 [] = true := by decide +kernel

theorem test_vl11_txs :
    let c := { emulation 0x30 with x := 0x00FF }
    stepEnds (machine c [0x9A] [] []) { c with pc := 0x8001 } 2 [] = true := by decide +kernel

theorem test_vl12_txs :
    let c := { native 0x00 with x := 0x1FFF }
    stepEnds (machine c [0x9A] [] []) { c with s := 0x1FFF, pc := 0x8001 } 2 [] = true := by decide +kernel

theorem test_vl13_tcs :
    let c := native 0x00
    stepEnds (machine c [0x1B] [] []) { c with s := 0x0000, pc := 0x8001 } 2 [] = true := by decide +kernel

theorem test_vl14_tcd :
    let c := { native 0x20 with a := 0x8000 }
    stepEnds (machine c [0x5B] [] []) { c with d := 0x8000, pc := 0x8001, p := status false 0xA0 } 2 [] = true := by decide +kernel

theorem test_vl15_xba :
    let c := { native 0x00 with a := 0x00FF }
    stepEnds (machine c [0xEB] [] []) { c with a := 0xFF00, pc := 0x8001, p := status false 0x02 } 3 [] = true := by decide +kernel

theorem test_vl16_tsx :
    let c := { emulation 0x30 with s := 0x01F3 }
    stepEnds (machine c [0xBA] [] []) { c with x := 0x00F3, pc := 0x8001, p := status true 0xB0 } 2 [] = true := by decide +kernel

theorem test_vl17_txy :
    let c := { native 0x00 with x := 0x8000 }
    stepEnds (machine c [0x9B] [] []) { c with y := 0x8000, pc := 0x8001, p := status false 0x80 } 2 [] = true := by decide +kernel

theorem test_vl18_styDirX :
    let c := { native 0x00 with x := 0x0002, y := 0x1234 }
    stepEnds (machine c [0x94, 0x10] [] []) { c with pc := 0x8002 } 5 [(0x000012, 0x34), (0x000013, 0x12)] = true := by decide +kernel

theorem test_vr1_adcImm :
    let c := { native 0x20 with a := 0x0050 }
    stepEnds (machine c [0x69, 0x50] [] []) { c with a := 0x00A0, pc := 0x8002, p := status false 0xE0 } 2 [] = true := by decide +kernel

theorem test_vr2_adcImm :
    let c := { native 0x00 with a := 0xFFFF }
    stepEnds (machine c [0x69, 0x01, 0x00] [] []) { c with a := 0x0000, pc := 0x8003, p := status false 0x03 } 3 [] = true := by decide +kernel

theorem test_vr5_adcImm :
    let c := { native 0x09 with a := 0x1234 }
    stepEnds (machine c [0x69, 0x45, 0x23] [] []) { c with a := 0x3580, pc := 0x8003, p := status false 0x08 } 3 [] = true := by decide +kernel

theorem test_vr8_sbcImm :
    let c := native 0x29
    stepEnds (machine c [0xE9, 0x01] [] []) { c with a := 0x0099, pc := 0x8002, p := status false 0xA8 } 2 [] = true := by decide +kernel

theorem test_vr9_sbcImm :
    let c := { native 0x21 with a := 0x0080 }
    stepEnds (machine c [0xE9, 0x40] [] []) { c with a := 0x0040, pc := 0x8002, p := status false 0x61 } 2 [] = true := by decide +kernel

theorem test_vr10_cmpImm :
    let c := { native 0x00 with a := 0x1000 }
    stepEnds (machine c [0xC9, 0x00, 0x10] [] []) { c with pc := 0x8003, p := status false 0x03 } 3 [] = true := by decide +kernel

theorem test_vr11_cmpImm :
    let c := { native 0x20 with a := 0x0010 }
    stepEnds (machine c [0xC9, 0x20] [] []) { c with pc := 0x8002, p := status false 0xA0 } 2 [] = true := by decide +kernel

theorem test_vr12_cpxImm :
    let c := { native 0x10 with x := 0x0007 }
    stepEnds (machine c [0xE0, 0x05] [] []) { c with pc := 0x8002, p := status false 0x11 } 2 [] = true := by decide +kernel

theorem test_vr13_andImm :
    let c := { native 0x20 with a := 0x12F0 }
    stepEnds (machine c [0x29, 0x0F] [] []) { c with a := 0x1200, pc := 0x8002, p := status false 0x22 } 2 [] = true := by decide +kernel

theorem test_vr14_eorImm :
    let c := { native 0x00 with a := 0x00FF }
    stepEnds (machine c [0x49, 0xFF, 0xFF] [] []) { c with a := 0xFF00, pc := 0x8003, p := status false 0x80 } 3 [] = true := by decide +kernel

theorem test_vr15_bitImm :
    let c := { native 0xE0 with a := 0x0001 }
    stepEnds (machine c [0x89, 0x80] [] []) { c with pc := 0x8002, p := status false 0xE2 } 2 [] = true := by decide +kernel

theorem test_vr16_bitDir :
    let c := { native 0x20 with a := 0x00FF }
    stepEnds (machine c [0x24, 0x10] [(0x000010, 0xC0)] []) { c with pc := 0x8002, p := status false 0xE0 } 3 [] = true := by decide +kernel

theorem test_vr17_incAcc :
    let c := { native 0x20 with a := 0x12FF }
    stepEnds (machine c [0x1A] [] []) { c with a := 0x1200, pc := 0x8001, p := status false 0x22 } 2 [] = true := by decide +kernel

theorem test_vr18_incDir :
    let c := native 0x00
    stepEnds (machine c [0xE6, 0x10] [(0x000010, 0xFF), (0x000011, 0x7F)] []) { c with pc := 0x8002, p := status false 0x80 } 7 [(0x000010, 0x00), (0x000011, 0x80)] = true := by decide +kernel

theorem test_vr19_decDir :
    let c := native 0x20
    stepEnds (machine c [0xC6, 0x10] [(0x000010, 0x00)] []) { c with pc := 0x8002, p := status false 0xA0 } 5 [(0x000010, 0xFF)] = true := by decide +kernel

theorem test_vr20_dex :
    let c := native 0x00
    stepEnds (machine c [0xCA] [] []) { c with x := 0xFFFF, pc := 0x8001, p := status false 0x80 } 2 [] = true := by decide +kernel

theorem test_vr21_inx :
    let c := { native 0x10 with x := 0x00FF }
    stepEnds (machine c [0xE8] [] []) { c with x := 0x0000, pc := 0x8001, p := status false 0x12 } 2 [] = true := by decide +kernel

theorem test_vr22_aslAcc :
    let c := { native 0x20 with a := 0x0080 }
    stepEnds (machine c [0x0A] [] []) { c with a := 0x0000, pc := 0x8001, p := status false 0x23 } 2 [] = true := by decide +kernel

theorem test_vr23_lsrAcc :
    let c := { native 0x00 with a := 0x0001 }
    stepEnds (machine c [0x4A] [] []) { c with a := 0x0000, pc := 0x8001, p := status false 0x03 } 2 [] = true := by decide +kernel

theorem test_vr24_rolAcc :
    let c := { native 0x01 with a := 0x8000 }
    stepEnds (machine c [0x2A] [] []) { c with a := 0x0001, pc := 0x8001 } 2 [] = true := by decide +kernel

theorem test_vr25_rorAcc :
    let c := { native 0x21 with a := 0x0001 }
    stepEnds (machine c [0x6A] [] []) { c with a := 0x0080, pc := 0x8001, p := status false 0xA1 } 2 [] = true := by decide +kernel

theorem test_vr26_tsbDir :
    let c := { native 0x20 with a := 0x000F }
    stepEnds (machine c [0x04, 0x10] [(0x000010, 0xF0)] []) { c with pc := 0x8002, p := status false 0x22 } 5 [(0x000010, 0xFF)] = true := by decide +kernel

theorem test_vr27_trbDir :
    let c := { native 0x20 with a := 0x000F }
    stepEnds (machine c [0x14, 0x10] [(0x000010, 0xFF)] []) { c with pc := 0x8002 } 5 [(0x000010, 0xF0)] = true := by decide +kernel

theorem test_vr28_oraDir :
    let c := { native 0x00 with a := 0x0001, d := 0x0001 }
    stepEnds (machine c [0x05, 0x10] [(0x000011, 0x00), (0x000012, 0x80)] []) { c with a := 0x8001, pc := 0x8002, p := status false 0x80 } 5 [] = true := by decide +kernel

theorem test_vc1_beq :
    let c := native 0x02
    stepEnds (machine c [0xF0, 0x05] [] []) { c with pc := 0x8007 } 3 [] = true := by decide +kernel

theorem test_vc2_beq :
    let c := native 0x00
    stepEnds (machine c [0xF0, 0x05] [] []) { c with pc := 0x8002 } 2 [] = true := by decide +kernel

theorem test_vc3_bne :
    let c := native 0x00
    stepEnds (machine c [0xD0, 0xFC] [] []) { c with pc := 0x7FFE } 3 [] = true := by decide +kernel

theorem test_vc4_bra :
    let c := { emulation 0x30 with pc := 0x80F0 }
    stepEnds (machine c [0x80, 0x7F] [] []) { c with pc := 0x8171 } 4 [] = true := by decide +kernel

theorem test_vc5_brl :
    let c := native 0x00
    stepEnds (machine c [0x82, 0x00, 0x10] [] []) { c with pc := 0x9003 } 4 [] = true := by decide +kernel

theorem test_vc6_jmpAbs :
    let c := { native 0x00 with pb := 0x05 }
    stepEnds (machine c [0x4C, 0x34, 0x12] [] []) { c with pc := 0x1234 } 3 [] = true := by decide +kernel

theorem test_vc7_jmpAbsInd :
    let c := { native 0x00 with pb := 0x05 }
    stepEnds (machine c [0x6C, 0xFF, 0x10] [(0x0010FF, 0x00), (0x001100, 0x90)] []) { c with pc := 0x9000 } 5 [] = true := by decide +kernel

theorem test_vc8_jmpAbsIndX :
    let c := { native 0x00 with x := 0x0002, pb := 0x05 }
    stepEnds (machine c [0x7C, 0x00, 0x10] [(0x051002, 0x00), (0x051003, 0xA0)] []) { c with pc := 0xA000 } 6 [] = true := by decide +kernel

theorem test_vc9_jmlLong :
    let c := native 0x00
    stepEnds (machine c [0x5C, 0x34, 0x12, 0x7E] [] []) { c with pb := 0x7E, pc := 0x1234 } 4 [] = true := by decide +kernel

theorem test_vc10_jmlAbsIndLong :
    let c := native 0x00
    stepEnds (machine c [0xDC, 0x00, 0x02] [(0x000200, 0x00), (0x000201, 0x80), (0x000202, 0x03)] []) { c with pb := 0x03 } 6 [] = true := by decide +kernel

theorem test_vc11_jsrAbs :
    let c := native 0x00
    stepEnds (machine c [0x20, 0x00, 0x90] [] []) { c with s := 0x01FD, pc := 0x9000 } 6 [(0x0001FE, 0x02), (0x0001FF, 0x80)] = true := by decide +kernel

theorem test_vc12_jsl :
    let c := native 0x00
    stepEnds (machine c [0x22, 0x00, 0x80, 0x05] [] []) { c with s := 0x01FC, pb := 0x05 } 8 [(0x0001FD, 0x03), (0x0001FE, 0x80), (0x0001FF, 0x00)] = true := by decide +kernel

theorem test_vc13_rts :
    let c := { native 0x00 with s := 0x01FD }
    stepEnds (machine c [0x60] [(0x0001FE, 0x02), (0x0001FF, 0x90)] []) { c with s := 0x01FF, pc := 0x9003 } 6 [] = true := by decide +kernel

theorem test_vc14_rtl :
    let c := { native 0x00 with s := 0x01FC }
    stepEnds (machine c [0x6B] [(0x0001FD, 0x03), (0x0001FE, 0x80), (0x0001FF, 0x00)] []) { c with s := 0x01FF, pc := 0x8004 } 6 [] = true := by decide +kernel

theorem test_vc15_bpl :
    let c := native 0x80
    stepEnds (machine c [0x10, 0x10] [] []) { c with pc := 0x8002 } 2 [] = true := by decide +kernel

theorem test_vc16_bcc :
    let c := native 0x00
    stepEnds (machine c [0x90, 0x00] [] []) { c with pc := 0x8002 } 3 [] = true := by decide +kernel

theorem test_vs1_pha :
    let c := { native 0x00 with a := 0x1234 }
    stepEnds (machine c [0x48] [] []) { c with s := 0x01FD, pc := 0x8001 } 4 [(0x0001FE, 0x34), (0x0001FF, 0x12)] = true := by decide +kernel

theorem test_vs2_pha :
    let c := { emulation 0x30 with a := 0x1234, s := 0x0100 }
    stepEnds (machine c [0x48] [] []) { c with s := 0x01FF, pc := 0x8001 } 3 [(0x000100, 0x34)] = true := by decide +kernel

theorem test_vs3_php :
    let c := emulation 0x33
    stepEnds (machine c [0x08] [] []) { c with s := 0x01FE, pc := 0x8001 } 3 [(0x0001FF, 0x33)] = true := by decide +kernel

theorem test_vs4_plp :
    let c := { emulation 0x30 with s := 0x01FE }
    stepEnds (machine c [0x28] [(0x0001FF, 0x00)] []) { c with s := 0x01FF, pc := 0x8001 } 4 [] = true := by decide +kernel

theorem test_vs5_plp :
    let c := { native 0x00 with x := 0x1234, s := 0x01FE }
    stepEnds (machine c [0x28] [(0x0001FF, 0x10)] []) { c with x := 0x0034, s := 0x01FF, pc := 0x8001, p := status false 0x10 } 4 [] = true := by decide +kernel

theorem test_vs6_phk :
    let c := emulation 0x30
    stepEnds (machine c [0x4B] [] []) { c with s := 0x01FE, pc := 0x8001 } 3 [(0x0001FF, 0x00)] = true := by decide +kernel

theorem test_vs7_plb :
    let c := { emulation 0x30 with s := 0x01FE }
    stepEnds (machine c [0xAB] [(0x0001FF, 0x80)] []) { c with s := 0x01FF, db := 0x80, pc := 0x8001, p := status true 0xB0 } 4 [] = true := by decide +kernel

theorem test_vs8_pea :
    let c := native 0x00
    stepEnds (machine c [0xF4, 0x34, 0x12] [] []) { c with s := 0x01FD, pc := 0x8003 } 5 [(0x0001FE, 0x34), (0x0001FF, 0x12)] = true := by decide +kernel

theorem test_vs9_pei :
    let c := native 0x00
    stepEnds (machine c [0xD4, 0x10] [(0x000010, 0xCD), (0x000011, 0xAB)] []) { c with s := 0x01FD, pc := 0x8002 } 6 [(0x0001FE, 0xCD), (0x0001FF, 0xAB)] = true := by decide +kernel

theorem test_vs10_per :
    let c := native 0x00
    stepEnds (machine c [0x62, 0x10, 0x00] [] []) { c with s := 0x01FD, pc := 0x8003 } 6 [(0x0001FE, 0x13), (0x0001FF, 0x80)] = true := by decide +kernel

theorem test_vs12_pla :
    let c := { native 0x20 with a := 0x1200, s := 0x01FD }
    stepEnds (machine c [0x68] [(0x0001FE, 0x00)] []) { c with s := 0x01FE, pc := 0x8001, p := status false 0x22 } 4 [] = true := by decide +kernel

theorem test_vs13_phy :
    let c := { native 0x10 with y := 0x0080 }
    stepEnds (machine c [0x5A] [] []) { c with s := 0x01FE, pc := 0x8001 } 3 [(0x0001FF, 0x80)] = true := by decide +kernel

theorem test_vp1_rep :
    let c := native 0x30
    stepEnds (machine c [0xC2, 0x30] [] []) { c with pc := 0x8002, p := status false 0x00 } 3 [] = true := by decide +kernel

theorem test_vp2_rep :
    let c := emulation 0x33
    stepEnds (machine c [0xC2, 0x30] [] []) { c with pc := 0x8002 } 3 [] = true := by decide +kernel

theorem test_vp3_sep :
    let c := { native 0x00 with x := 0x1234, y := 0xABCD }
    stepEnds (machine c [0xE2, 0x10] [] []) { c with x := 0x0034, y := 0x00CD, pc := 0x8002, p := status false 0x10 } 3 [] = true := by decide +kernel

theorem test_vp4_xce :
    let c := emulation 0x30
    stepEnds (machine c [0xFB] [] []) { c with pc := 0x8001, p := status false 0x31 } 2 [] = true := by decide +kernel

theorem test_vp5_xce :
    let c := { native 0x01 with x := 0x1234, s := 0x1FFF }
    stepEnds (machine c [0xFB] [] []) { c with x := 0x0034, s := 0x01FF, pc := 0x8001, p := status true 0x30 } 2 [] = true := by decide +kernel

theorem test_vp7_brk :
    let c := native 0x08
    stepEnds (machine c [0x00, 0x00] [(0x00FFE6, 0x00), (0x00FFE7, 0x90)] []) { c with s := 0x01FB, pc := 0x9000, p := status false 0x04 } 8 [(0x0001FC, 0x08), (0x0001FD, 0x02), (0x0001FE, 0x80), (0x0001FF, 0x00)] = true := by decide +kernel

theorem test_vp8_brk :
    let c := emulation 0x30
    stepEnds (machine c [0x00, 0x00] [(0x00FFFE, 0x00), (0x00FFFF, 0xA0)] []) { c with s := 0x01FC, pc := 0xA000, p := status true 0x34 } 7 [(0x0001FD, 0x30), (0x0001FE, 0x02), (0x0001FF, 0x80)] = true := by decide +kernel

theorem test_vp9_cop :
    let c := native 0x00
    stepEnds (machine c [0x02, 0x12] [(0x00FFE4, 0x00), (0x00FFE5, 0xB0)] []) { c with s := 0x01FB, pc := 0xB000, p := status false 0x04 } 8 [(0x0001FC, 0x00), (0x0001FD, 0x02), (0x0001FE, 0x80), (0x0001FF, 0x00)] = true := by decide +kernel

theorem test_vp10_rti :
    let c := { native 0x00 with s := 0x01FB }
    stepEnds (machine c [0x40] [(0x0001FC, 0x04), (0x0001FD, 0x02), (0x0001FE, 0x80), (0x0001FF, 0x05)] []) { c with s := 0x01FF, pb := 0x05, pc := 0x8002, p := status false 0x04 } 7 [] = true := by decide +kernel

theorem test_vp11_rti :
    let c := { emulation 0x30 with s := 0x01FC }
    stepEnds (machine c [0x40] [(0x0001FD, 0x00), (0x0001FE, 0x34), (0x0001FF, 0x12)] []) { c with s := 0x01FF, pc := 0x1234 } 6 [] = true := by decide +kernel

theorem test_vp12_wdm :
    let c := native 0x00
    stepEnds (machine c [0x42, 0x55] [] []) { c with pc := 0x8002 } 2 [] = true := by decide +kernel

theorem test_vp13_nop :
    let c := native 0x00
    stepEnds (machine c [0xEA] [] []) { c with pc := 0x8001 } 2 [] = true := by decide +kernel

theorem test_vp14_wai :
    let c := native 0x00
    stepEnds (machine c [0xCB] [] []) { c with pc := 0x8001 } 3 [] = true := by decide +kernel

theorem test_vp15_stp :
    let c := native 0x00
    stepEnds (machine c [0xDB] [] []) { c with pc := 0x8001 } 3 [] = true := by decide +kernel

theorem test_vp16_cli :
    let c := native 0x04
    stepEnds (machine c [0x58] [] []) { c with pc := 0x8001, p := status false 0x00 } 2 [] = true := by decide +kernel

theorem test_vb1_mvn :
    let c := { native 0x00 with a := 0x0002, x := 0x1000, y := 0x2000 }
    stepEnds (machine c [0x54, 0x7E, 0x7F] [(0x7F1000, 0xAA)] []) { c with a := 0x0001, x := 0x1001, y := 0x2001, db := 0x7E } 7 [(0x7E2000, 0xAA)] = true := by decide +kernel

theorem test_vb4_mvn :
    let c := { native 0x10 with x := 0x00FF, y := 0x00FF }
    stepEnds (machine c [0x54, 0x00, 0x00] [(0x0000FF, 0x5A)] []) { c with a := 0xFFFF, x := 0x0000, y := 0x0000, pc := 0x8003 } 7 [] = true := by decide +kernel

/-! ## Single steps: the examples in the rules' own text, for instructions the vectors leave out -/

theorem test_r212_ldy :
    let c := { native 0x10 with y := 0x0077 }
    stepEnds (machine c [0xA0, 0x00] [] []) { c with y := 0, pc := 0x8002, p := status false 0x12 } 2 [] = true := by decide +kernel

theorem test_r214_stx :
    let c := { native 0x00 with x := 0x1FFF }
    stepEnds (machine c [0x86, 0x10] [] []) { c with pc := 0x8002 } 4 [(0x000010, 0xFF), (0x000011, 0x1F)] = true := by decide +kernel

theorem test_r218_tay :
    let c := { native 0x10 with a := 0x1200 }
    stepEnds (machine c [0xA8] [] []) { c with y := 0, pc := 0x8001, p := status false 0x12 } 2 [] = true := by decide +kernel

theorem test_r220_tya :
    let c := { native 0x20 with a := 0x3400, y := 0x00FF }
    stepEnds (machine c [0x98] [] []) { c with a := 0x34FF, pc := 0x8001, p := status false 0xA0 } 2 [] = true := by decide +kernel

theorem test_r222_tyx :
    let c := { native 0x10 with x := 0x0077 }
    stepEnds (machine c [0xBB] [] []) { c with x := 0, pc := 0x8001, p := status false 0x12 } 2 [] = true := by decide +kernel

theorem test_r226_tsc :
    let c := emulation 0x30
    stepEnds (machine c [0x3B] [] []) { c with a := 0x01FF, pc := 0x8001 } 2 [] = true := by decide +kernel

theorem test_r228_tdc :
    let c := { native 0x20 with a := 0xFFFF }
    stepEnds (machine c [0x7B] [] []) { c with a := 0, pc := 0x8001, p := status false 0x22 } 2 [] = true := by decide +kernel

theorem test_r254_cpy :
    let c := { native 0x10 with y := 0x0005 }
    stepEnds (machine c [0xC0, 0x0A] [] []) { c with pc := 0x8002, p := status false 0x90 } 2 [] = true := by decide +kernel

theorem test_r261_iny :
    let c := { native 0x00 with y := 0x7FFF }
    stepEnds (machine c [0xC8] [] []) { c with y := 0x8000, pc := 0x8001, p := status false 0x80 } 2 [] = true := by decide +kernel

theorem test_r264_dey :
    let c := native 0x10
    stepEnds (machine c [0x88] [] []) { c with y := 0x00FF, pc := 0x8001, p := status false 0x90 } 2 [] = true := by decide +kernel

theorem test_r301_bcs :
    let c := native 0x00
    stepEnds (machine c [0xB0, 0x10] [] []) { c with pc := 0x8002 } 2 [] = true := by decide +kernel

theorem test_r304_bmi :
    let c := { emulation 0xB0 with pc := 0x80F0 }
    stepEnds (machine c [0x30, 0x20] [] []) { c with pc := 0x8112 } 4 [] = true := by decide +kernel

theorem test_r306_bvc :
    let c := native 0x00
    stepEnds (machine c [0x50, 0x00] [] []) { c with pc := 0x8002 } 3 [] = true := by decide +kernel

theorem test_r307_bvs :
    let c := native 0x40
    stepEnds (machine c [0x70, 0x7F] [] []) { c with pc := 0x8081 } 3 [] = true := by decide +kernel

theorem test_r344_phx :
    let c := { emulation 0x30 with x := 0x0042 }
    stepEnds (machine c [0xDA] [] []) { c with s := 0x01FE, pc := 0x8001 } 3 [(0x0001FF, 0x42)] = true := by decide +kernel

theorem test_r347_phb :
    let c := { native 0x00 with s := 0x1FFF, db := 0x7E }
    stepEnds (machine c [0x8B] [] []) { c with s := 0x1FFE, pc := 0x8001 } 3 [(0x001FFF, 0x7E)] = true := by decide +kernel

theorem test_r348_phd :
    let c := { native 0x00 with s := 0x1FFF, d := 0x2100 }
    stepEnds (machine c [0x0B] [] []) { c with s := 0x1FFD, pc := 0x8001 } 4 [(0x001FFF, 0x21), (0x001FFE, 0x00)] = true := by
  decide +kernel

theorem test_r351_plx :
    let c := { emulation 0x30 with s := 0x01FE }
    stepEnds (machine c [0xFA] [(0x0001FF, 0x80)] []) { c with x := 0x0080, s := 0x01FF, pc := 0x8001, p := status true 0xB0 } 4 [] =
      true := by decide +kernel

theorem test_r352_ply :
    let c := { emulation 0x30 with y := 0x0011 }
    stepEnds (machine c [0x7A] [] []) { c with y := 0, s := 0x0100, pc := 0x8001, p := status true 0x32 } 4 [] = true := by decide +kernel

theorem test_r355_pld :
    let c := { native 0x00 with s := 0x1FFD }
    stepEnds (machine c [0x2B] [(0x001FFF, 0x21)] []) { c with s := 0x1FFF, d := 0x2100, pc := 0x8001 } 5 [] = true := by decide +kernel

theorem test_r370_flags :
    stepEnds (machine (native 0x35) [0x18] [] []) { native 0x34 with pc := 0x8001 } 2 [] = true ∧
    stepEnds (machine (native 0x3C) [0xD8] [] []) { native 0x34 with pc := 0x8001 } 2 [] = true ∧
    stepEnds (machine (native 0x74) [0xB8] [] []) { native 0x34 with pc := 0x8001 } 2 [] = true ∧
    stepEnds (machine (native 0x34) [0x38] [] []) { native 0x35 with pc := 0x8001 } 2 [] = true ∧
    stepEnds (machine (native 0x34) [0xF8] [] []) { native 0x3C with pc := 0x8001 } 2 [] = true ∧
    stepEnds (machine (native 0x30) [0x78] [] []) { native 0x34 with pc := 0x8001 } 2 [] = true := by decide +kernel

theorem test_r385_cop :
    let c := emulation 0x30
    stepEnds (machine c [0x02, 0x00] [(0x00FFF5, 0x91)] []) { c with s := 0x01FC, pc := 0x9100, p := status true 0x34 } 7
      [(0x0001FF, 0x80), (0x0001FE, 0x02), (0x0001FD, 0x30)] = true := by decide +kernel

/-- WAI and STP enter their run states (VP14, VP15). -/
theorem test_runStates :
    (match step (machine (native 0x00) [0xCB] [] []) with | .next t => t.run | _ => .running) = .waiting ∧
    (match step (machine (native 0x00) [0xDB] [] []) with | .next t => t.run | _ => .running) = .stopped := by decide +kernel

/-! ## Boundaries (95_test_vectors.md, VI vectors, one step each) -/

/-- The vectors in ROM that the VI vectors assume. -/
def vectors : List (Nat × Byte) :=
  [(0xFFEA, 0x00), (0xFFEB, 0x90), (0xFFEE, 0x00), (0xFFEF, 0x91), (0xFFFE, 0x00), (0xFFFF, 0x93), (0xFFFC, 0x00), (0xFFFD, 0x80)]

/-- A machine at a boundary, in a run state. -/
def atRun (r : RunState) (c : Cpu) (code : List Byte) (inp : BoundaryInput) : State :=
  { machine c code vectors [inp] with run := r }

theorem test_vi1_nmi :
    let c := { native 0x00 with s := 0x1FFF }
    stepEnds (atRun .running c [0xEA] { nmi := true }) { c with s := 0x1FFB, pc := 0x9000, p := status false 0x04 } 8
      [(0x001FFC, 0x00), (0x001FFD, 0x00), (0x001FFE, 0x80), (0x001FFF, 0x00)] = true := by decide +kernel

theorem test_vi2_irqEmulation :
    let c := emulation 0x30
    stepEnds (atRun .running c [0xEA] { irq := true }) { c with s := 0x01FC, pc := 0x9300, p := status true 0x34 } 7
      [(0x0001FD, 0x20), (0x0001FE, 0x00), (0x0001FF, 0x80)] = true := by decide +kernel

theorem test_vi3_irqMasked :
    let c := emulation 0x34
    stepEnds (atRun .running c [0xEA] { irq := true }) { c with pc := 0x8001 } 2 [] = true := by decide +kernel

theorem test_vi5_nmiBeforeIrq :
    let c := { native 0x00 with s := 0x1FFF }
    stepEnds (atRun .running c [0xEA] { nmi := true, irq := true })
      { c with s := 0x1FFB, pc := 0x9000, p := status false 0x04 } 8 [] = true := by decide +kernel

theorem test_vi6_maskedIrqEndsWait :
    let c := native 0x04
    stepEnds (atRun .waiting c [0xEA] { irq := true }) { c with pc := 0x8001 } 2 [] = true ∧
    stepEnds (atRun .waiting c [0xEA] {}) c 0 [] = true := by decide +kernel

theorem test_vi7_irqTakenFromWait :
    let c := { native 0x00 with s := 0x1FFF, pc := 0x8001 }
    stepEnds (atRun .waiting c [0xEA] { irq := true }) { c with s := 0x1FFB, pc := 0x9100, p := status false 0x04 } 8
      [(0x001FFC, 0x00), (0x001FFD, 0x01), (0x001FFE, 0x80), (0x001FFF, 0x00)] = true := by decide +kernel

theorem test_vi8_stopIgnoresLines :
    let c := native 0x00
    stepEnds (atRun .stopped c [0xEA] { nmi := true, irq := true }) c 0 [] = true := by decide +kernel

theorem test_vi9_resetFromStop :
    let c := { native 0x0F with x := 0x1234, s := 0x1FF0, d := 0x55AA, db := 0x12 }
    stepEnds (atRun .stopped c [0xEA] { reset := true })
      { c with x := 0x0034, s := 0x01F0, d := 0, db := 0, p := status true 0x37 } 0 [] = true := by decide +kernel

/-! ## The memory map (95_test_vectors.md, VM, VD, VH, VW and VO vectors) -/

/-- VM1 to VM20: the LoROM translation, both ends of each range. -/
theorem test_vm_loRom :
    [0x008000, 0x3FFFFF, 0x808000, 0x01FFFF, 0x400000, 0x408000, 0x410000, 0xC00000, 0x6FFFFF, 0x700000, 0x7D7FFF, 0xF00000,
     0x708000, 0x7DFFFF, 0xFE0000, 0xFF7FFF, 0xFE8000, 0xFFFFFF, 0x006000, 0x002200].map (convertToLocalAddr true) =
    [(.rom, 0x000000), (.rom, 0x1FFFFF), (.rom, 0x000000), (.rom, 0x00FFFF), (.rom, 0x200000), (.rom, 0x208000), (.rom, 0x208000),
     (.rom, 0x200000), (.rom, 0x387FFF), (.mode20Sram1, 0x000000), (.mode20Sram1, 0x06FFFF), (.mode20Sram1, 0x000000),
     (.rom, 0x380000), (.rom, 0x3EFFFF), (.mode20Sram2, 0x000000), (.mode20Sram2, 0x00FFFF), (.rom, 0x3F0000),
     (.rom, 0x3FFFFF), (.unmapped, 0x000000), (.unmapped, 0x000000)] := by decide +kernel

/-- VM21 to VM34: the HiROM translation. -/
theorem test_vm_hiRom :
    [0x008000, 0x00FFFC, 0x3FFFFF, 0x80C000, 0x206000, 0x3F7FFF, 0xA06000, 0x400000, 0xC00000, 0xFFFFFF, 0x7D1234, 0x006000,
     0x1F7FFF, 0x003000].map (convertToLocalAddr false) =
    [(.rom, 0x008000), (.rom, 0x00FFFC), (.rom, 0x3FFFFF), (.rom, 0x00C000), (.mode21Sram, 0x000000), (.mode21Sram, 0x03FFFF),
     (.mode21Sram, 0x000000), (.rom, 0x000000), (.rom, 0x000000), (.rom, 0x3FFFFF), (.rom, 0x3D1234), (.unmapped, 0x000000),
     (.unmapped, 0x000000), (.unmapped, 0x000000)] := by decide +kernel

/-- VD1 to VD25: the decoder, both ends of each range; the five external devices at the ends R68 gives them. -/
theorem test_vd_decoder :
    [0x000000, 0x001FFF, 0x3F1FFF, 0x7E0000, 0x7E2000, 0x7FFFFF, 0x801FFF].map getTarget = List.replicate 7 .wramA ∧
    [0x002180, 0x002183, 0x802180, 0xBF2180].map getTarget = List.replicate 4 .wramPort ∧
    [0x002200, 0x003FFF, 0x006000, 0x008000, 0x401FFF, 0xC02180].map getTarget = List.replicate 6 .cart ∧
    [0x002000, 0x0020FF].map getTarget = [.unmapped, .unmapped] ∧
    [0x002100, 0x00213F, 0x002140, 0x00217F].map getTarget = [.ext .ppu, .ext .ppu, .ext .apu, .ext .apu] ∧
    [0x002184, 0x0021FF].map getTarget = [.ext .expansion, .ext .expansion] ∧
    [0x004000, 0x0042FF, 0x004300, 0x005FFF].map getTarget = [.ext .onChipIo, .ext .onChipIo, .ext .dma, .ext .dma] := by
  decide +kernel

/-- A file of zeros with the checksum pair of SAMPLE1 at header starts. -/
def imageWith (size : Nat) (starts : List Nat) : RomImage :=
  ⟨size, starts.flatMap fun h => [(h + 0x2C, 0x7F), (h + 0x2D, 0x73), (h + 0x2E, 0x80), (h + 0x2F, 0x8C)]⟩

/-- The mapping found in a file. -/
def detected (img : RomImage) : Option (Bool × Bool) := (constructCartridge img).map fun c => (c.isLoRom, c.hasHeaderOffset)

/-- VH1 to VH5; a file with no pair is FormatError (R91). -/
theorem test_vh_autodetection :
    detected (imageWith 0x8000 [0x7FB0]) = some (true, false) ∧ detected (imageWith 0x10000 [0xFFB0]) = some (false, false) ∧
    detected (imageWith 0x8200 [0x81B0]) = some (true, true) ∧ detected (imageWith 0x10200 [0x101B0]) = some (false, true) ∧
    detected (imageWith 0x10000 [0x7FB0, 0xFFB0]) = some (false, false) ∧ detected (imageWith 0x10000 []) = none := by decide +kernel

/-- A bus after writes. -/
def written (b : Bus) (l : List (Nat × Byte)) : Bus := l.foldl (fun b c => b.write (BitVec.ofNat 24 c.1) c.2) b

/-- A read of one byte. -/
def reads (b : Bus) (a : Addr) : Byte × Bus := b.read true false a

/-- VW1, VW2: the WRAM mirror and the last byte. -/
theorem test_vw1_mirror :
    let b := written (busWith hiRom []) [(0x000010, 0xAB), (0x7FFFFF, 0x5A)]
    [0x7E0010, 0x800010, 0x3F0010].map (fun a => (reads b a).1) = [0xAB, 0xAB, 0xAB] ∧ b.wram.read 0x1FFFF = 0x5A := by
  decide +kernel

/-- VW3: the latch writes and the wrap of WmAddr. -/
theorem test_vw3_wmAddrWraps :
    let b := written (busWith hiRom []) [(0x2181, 0xFF), (0x2182, 0xFF), (0x2183, 0xFF), (0x2180, 0x11), (0x2180, 0x22)]
    b.wmAddr = 0x00001 ∧ b.wram.read 0 = 0x22 ∧ b.wram.read 0x1FFFF = 0x11 := by decide +kernel

/-- VW4, VW5: a destructive read moves WmAddr, a nondestructive one does not. -/
theorem test_vw4_wmDataReads :
    let b := written (busWith hiRom []) [(0x2180, 0xC1), (0x2180, 0xC2), (0x2181, 0x00)]
    (reads b 0x2180).1 = 0xC1 ∧ (reads (reads b 0x2180).2 0x2180).1 = 0xC2 ∧ (reads (reads b 0x2180).2 0x2180).2.wmAddr = 2 ∧
    (b.read true true 0x2180).1 = 0xC1 ∧ (b.read true true 0x2180).2.wmAddr = 0 := by decide +kernel

/-- VW6: the latch reads. -/
theorem test_vw6_latchReads :
    let b := written (busWith hiRom []) [(0x2181, 0x34), (0x2182, 0x12), (0x2183, 0x01)]
    b.wmAddr = 0x11234 ∧ (reads b 0x2181).1 = 0x34 ∧ (reads b 0x2182).1 = 0x12 ∧ (reads b 0x2183).1 = 0x01 := by decide +kernel

/-- VO1, VO3: the open-bus replica, and a store to ROM that changes nothing. -/
theorem test_vo1_openBus :
    let b := (reads (busWith loRom [(0x10, 0x3C)]) 0x10).2
    (reads b 0x6000).1 = 0x3C ∧ b.deviceWrite 0x8000 0x77 = (false, b) := by decide +kernel

/-- The machine right after reset: every memory in canonical form, nothing listed. -/
theorem test_reset_memory :
    State.reset.bus.wf = true ∧ State.reset.bus.wram = [] ∧ State.reset.bus.sram1 = [] := by decide

/-- Reset with the power-on draws of program 1: the file's reset vector is fetched (R460, R461). -/
theorem test_boot_vector :
    let img : RomImage := ⟨0x8000, (imageWith 0x8000 [0x7FB0]).bytes ++ [(0x7FFC, 0x0E), (0x7FFD, 0xA2)]⟩
    ((State.reset.boot img).map fun s => s.cpu.pc) = some 0xA20E := by decide +kernel

/-- A word of the table placed where the machine fetches next runs as the first instruction after reset. -/
theorem test_withFetchWord :
    decodeTableWord 16 0x80A9 = some (.ldaImm (.byte 0x80)) ∧
    (match step (State.reset.withFetchWord 16 0x80A9) with | .next t => t.cpu.a | _ => 0) = 0x0080 := by decide +kernel

/-- R462: power-on takes boundary 0's input, and its NMI line becomes nmi_prev. -/
theorem test_boot_takesInput :
    ((State.boot blankImage { State.reset with inputs := [{ nmi := true }, { irq := true }] }).map
      fun s => (s.nmiPrev, s.inputs)) = some (true, [{ irq := true }]) := by decide +kernel

/-- R72, R82, R88: the order of the device contract's stops, and the longest transfer. -/
theorem test_deviceContract :
    workRamReadB true false 0x2184 0 State.reset.bus = .fault .emptyBuffer ∧
    workRamReadB true false 0x2184 2 State.reset.bus = .fault .outOfRange ∧
    workRamReadB true false 0x2180 2 State.reset.bus = .refused .multiBytePortAccess ∧
    workRamWriteA 0x7E0000 [] State.reset.bus = .fault .emptyBuffer ∧
    mmuWrite 0x7E0000 [1, 2, 3, 4, 5] State.reset.bus = .refused .bufferTooLong := ⟨rfl, rfl, rfl, rfl, rfl⟩

/-! ### UNINIT_READ = FAULT (program 1 of spec/95_test_vectors.md: PHK is the first instruction that reads an unwritten value) -/

/-- A machine right after reset with nothing written but ROM, at an instruction in ROM. -/
def unwritten (code : List Byte) : State :=
  { State.reset with
    cpu := { State.reset.cpu with pc := 0x8000 }, params := { uninitRead := .fault }
    bus := busWith loRom ((List.range code.length).map fun k => (0x8000 + k, code.getD k 0)) }

/-- A step ends in the fault of an unwritten read. -/
def faults (s : State) : Bool :=
  match step s with
  | .fault f => decide (f = .uninitialisedRead)
  | _ => false

/-- SEI, CLC, REP #$30 and NOP read nothing unwritten; PHK reads S.l, XCE and BCC read C, BEQ Z, LDA ,X reads X.l, TXA X.l, STA A. -/
theorem test_uninit_registers :
    [[0x78], [0x18], [0xC2, 0x30], [0xEA], [0xA9, 0x12], [0x9C, 0x10, 0x00]].map (fun c => faults (unwritten c)) =
      List.replicate 6 false ∧
    [[0x4B], [0xFB], [0x90, 0x00], [0xF0, 0x00], [0xBD, 0x00, 0x80], [0x8A], [0x85, 0x10]].map (fun c => faults (unwritten c)) =
      List.replicate 7 true := by decide +kernel

/-- LDA of an unwritten byte of WRAM faults, of ROM not; after STZ the byte is written, after CLC so is C. -/
theorem test_uninit_memory :
    faults (unwritten [0xAD, 0x10, 0x00]) = true ∧ faults (unwritten [0xAD, 0x10, 0x80]) = false ∧
    (match step (unwritten [0x9C, 0x10, 0x00]) with | .next t => t.marks.cells | _ => []) = [(0x10, 0x01)] ∧
    (match step (unwritten [0x18]) with | .next t => t.marks.unwritten.contains .c | _ => true) = false := by decide +kernel

/-- Under DRAW the same PHK goes on and the record stays as it was. -/
theorem test_uninit_draw :
    (match step { unwritten [0x4B] with params := {} } with | .next t => decide (t.marks = State.reset.marks) | _ => false) = true := by
  decide +kernel

/-! ## Witnesses: a state and operands that meet the hypotheses of each statement -/

/-- A bus with a LoROM cartridge and a byte of WRAM. -/
def aBus : Bus := busWith loRom [(0x7E0000, 0x3C)]

/-- A machine about to execute LDA #$1234 with sixteen-bit registers, stack in bank 0. -/
def aMachine : State := machine { native 0x00 with s := 0x1FFF } [0xA9, 0x34, 0x12] [] []

/-- The same with inputs for one boundary, in a run state. -/
def aBoundary (r : RunState) (p : Byte) (inp : BoundaryInput) : State :=
  { machine { native p with s := 0x1FFF } [0xA9, 0x34, 0x12] [] [inp] with run := r }

/-- The same in decimal mode, with an accumulator and a choice for operands that are not BCD. -/
def inDecimal (a : Word) (choice : DecimalNonBcd) : State :=
  { machine { native 0x28 with a := a } [0x69, 0x12] [] [] with params := { decimalNonBcd := choice } }

theorem witness_DecodeOfEncode :
    Instr.wellFormed wide (.ldaImm (.word 0x1234)) = true ∧ Instr.wellFormed narrow (.ldaImm (.byte 0x12)) = true := by decide

theorem witness_ByteSelectsInstruction :
    ([0x34, 0x12] : List Byte).length = operandBytes wide 0xA9 ∧ ([] : List Byte).length = operandBytes wide 0xEA := by decide +kernel

theorem witness_OpenBusLatch :
    0 < 2 ∧ 2 ≤ 4 ∧ aBus.deviceReadN true false 0x7E0000 2 = .next (some [0x3C, 0x00], aBus) ∧
    aBus.deviceReadN true false 0x002000 2 = .next (none, aBus) ∧ mmuWrite 0x002000 [0x01] aBus = .next (false, aBus) :=
  ⟨by decide, by decide, rfl, rfl, rfl⟩

theorem witness_WriteStoresOneCell :
    aBus.wf = true ∧ aBus.storeCell 0x7E0000 = some (.wram, 0) ∧ aBus.storeCell 0x008000 ≠ some (.wram, 0) := by decide +kernel

theorem witness_WorkRamBusA :
    (getTarget 0x7FFFFF = .wramA ∧ aBus.wf = true) ∧ workRamReadA 0x7FFFFF 1 aBus = .next (some [0x00], aBus) ∧
    workRamReadA 0x7FFFFF 2 aBus = .fault .outOfRange ∧ workRamWriteA 0x7FFFFF [0x01, 0x02] aBus = .fault .outOfRange ∧
    workRamReadA 0x3F2000 1 aBus = .next (some [0x3C], aBus) ∧ workRamReadA 0x400000 1 aBus = .fault .outOfRange ∧
    workRamReadA 0x800000 1 aBus = .next (some [0x3C], aBus) ∧ workRamReadA 0xC00000 1 aBus = .fault .outOfRange ∧
    workRamWriteA 0x7FFFFF [0x00] aBus = .next (true, aBus) :=
  ⟨by decide +kernel, rfl, rfl, rfl, rfl, rfl, rfl, rfl, rfl⟩

theorem witness_WorkRamBusB : aBus.wf = true ∧ 0x2181 ≤ (0x2181 : Word).toNat ∧ (0x2183 : Word).toNat ≤ 0x2183 := by decide +kernel

theorem witness_DeviceContractStops :
    (0x217F : Word).toNat < 0x2180 ∧ 0x2183 < (0x2184 : Word).toNat ∧ 0x2180 ≤ (0x2180 : Word).toNat ∧
    (0x2183 : Word).toNat ≤ 0x2183 ∧ 1 < ([0x01, 0x02] : List Byte).length ∧ 4 < ([1, 2, 3, 4, 5] : List Byte).length ∧ 4 < 5 := by
  decide

/-- One address in each range of the translation, at its ends. -/
theorem witness_BankTranslation :
    [0x002200, 0x007FFF, 0x008000, 0x3FFFFF, 0x400000, 0x6FFFFF, 0x700000, 0x7D7FFF, 0x708000, 0x7DFFFF, 0x80FFFF, 0xBF8000,
     0xC00000, 0xEFFFFF, 0xF00000, 0xFDFFFF, 0xFE7FFF, 0xFF8000, 0x206000, 0x1F7FFF].map getTarget =
    List.replicate 20 .cart := by decide +kernel

theorem witness_CartridgeAccess :
    aBus.cart = some loRom ∧ aBus.wf = true ∧
    [0x008000, 0x700000, 0xFF7FFF, 0x006000].map (fun a => (getTarget a, (convertToLocalAddr true a).1)) =
      [(.cart, .rom), (.cart, .mode20Sram1), (.cart, .mode20Sram2), (.cart, .unmapped)] ∧
    (busWith hiRom []).cart = some hiRom ∧ getTarget 0x206000 = .cart ∧ (convertToLocalAddr false 0x206000).1 = .mode21Sram := by
  decide +kernel

theorem witness_Autodetection :
    constructCartridge blankImage = some blankCartridge ∧ constructCartridge (imageWith 0x10000 []) = none := by decide +kernel

theorem witness_VectorsOnTheBus : constructCartridge blankImage = some blankCartridge ∧ 0x1F < 0x20 := by decide +kernel

theorem witness_Loads :
    Instr.mnemonic (.ldaSrIndY 0x01) = .lda ∧ Instr.mnemonic (.ldxDirY 0x01) = .ldx ∧ Instr.mnemonic (.ldyImm (.byte 0x01)) = .ldy := by
  decide

theorem witness_Stores :
    Instr.mnemonic (.staIndLongY 0x01) = .sta ∧ Instr.mnemonic (.stxAbs 0x01) = .stx ∧ Instr.mnemonic (.styDirX 0x01) = .sty ∧
    Instr.mnemonic (.stzAbsX 0x01) = .stz := by decide

/-- A number is outside the stored cells, and one is inside them. -/
theorem witness_StoredCells :
    let r := resolve (.absolute 0x0010) aMachine
    (.wram, 0x12) ∉ cellsLowFirst r.ea .w16 0x1234 r.st.bus ∧ (.wram, 0x11) ∈ cellsLowFirst r.ea .w16 0x1234 r.st.bus ∧
    (.wram, 0x12) ∉ cellsHighFirst r.ea .w16 0x1234 r.st.bus ∧ (.wram, 0x10) ∈ cellsHighFirst r.ea .w16 0x1234 r.st.bus ∧
    (.wram, 0x1FFD) ∉ pushCells false false [0x12, 0x34] aMachine.bus 0x1FFF ∧
    (.wram, 0x1FFE) ∈ pushCells false false [0x12, 0x34] aMachine.bus 0x1FFF := by decide +kernel

theorem witness_BinaryAddSubtract :
    aMachine.cpu.p.d = false ∧ Instr.mnemonic (.adcDir 0x01) = .adc ∧ Instr.mnemonic (.sbcLong 0x01) = .sbc := by decide +kernel

theorem witness_DecimalAddSubtract :
    (inDecimal 0x0058 .algorithm).cpu.p.d = true ∧ (inDecimal 0x0058 .algorithm).params.decimalNonBcd = .algorithm ∧ IsBcd .w8 0x58 ∧ IsBcd .w8 0x46 ∧ IsBcd .w16 0x9999 ∧
    Instr.mnemonic (.adcImm (.byte 0x46)) = .adc ∧ Instr.mnemonic (.sbcImm (.byte 0x46)) = .sbc := by
  unfold IsBcd
  decide +kernel

theorem witness_NonBcdDraw :
    let s := inDecimal 0x000A .draw
    Instr.mnemonic (.adcImm (.byte 0x12)) = .adc ∧ Instr.mnemonic (.sbcImm (.byte 0x12)) = .sbc ∧ s.cpu.p.d = true ∧
    s.params.decimalNonBcd = .draw ∧
    ¬ (IsBcd s.cpu.mw (low s.cpu.mw s.cpu.a) ∧ IsBcd s.cpu.mw (readOperand (.immediate (.byte 0x12)) s.cpu.mw s).value.toNat) := by
  unfold IsBcd
  decide +kernel

theorem witness_Compares :
    Instr.mnemonic (.cmpAbsY 0x01) = .cmp ∧ Instr.mnemonic (.cpxDir 0x01) = .cpx ∧ Instr.mnemonic (.cpyAbs 0x01) = .cpy := by decide

theorem witness_Logic :
    Instr.mnemonic (.andInd 0x01) = .and ∧ Instr.mnemonic (.oraSr 0x01) = .ora ∧ Instr.mnemonic (.eorLongX 0x01) = .eor := by decide

theorem witness_BitTest :
    Instr.mnemonic (.bitImm (.byte 0x80)) = .bit ∧ Instr.opcode (.bitImm (.byte 0x80)) = 0x89 ∧ Instr.mnemonic (.bitAbsX 0x01) = .bit ∧
    Instr.opcode (.bitAbsX 0x01) ≠ 0x89 := by decide

theorem witness_TestAndModify : Instr.mnemonic (.tsbDir 0x01) = .tsb ∧ Instr.mnemonic (.trbAbs 0x01) = .trb := by decide

theorem witness_IncrementsAndDecrements :
    Instr.mnemonic .incAcc = .inc ∧ Instr.mnemonic (.incAbsX 0x01) = .inc ∧ Instr.mnemonic .decAcc = .dec ∧
    Instr.mnemonic (.decDirX 0x01) = .dec := by decide

theorem witness_ShiftsAndRotates :
    Instr.mnemonic .aslAcc = .asl ∧ Instr.mnemonic (.lsrDir 0x01) = .lsr ∧ Instr.mnemonic (.rolAbs 0x01) = .rol ∧
    Instr.mnemonic (.rorAbsX 0x01) = .ror := by decide

theorem witness_Branches :
    Instr.bra 0x80 ∈ [Instr.bcc 0x80, .bcs 0x80, .beq 0x80, .bne 0x80, .bmi 0x80, .bpl 0x80, .bvc 0x80, .bvs 0x80, .bra 0x80] := by
  decide

theorem witness_CallThenReturn :
    aMachine.inv = true ∧ aMachine.params.noWrap = [] ∧ 1 ≤ aMachine.cpu.s.toNat ∧ aMachine.cpu.s.toNat < 0x2000 := by decide +kernel

theorem witness_InterruptThenReturn :
    Instr.cop 0x12 ∈ [Instr.brk 0x12, .cop 0x12] ∧ aMachine.inv = true ∧ aMachine.params.noWrap = [] ∧
    3 ≤ aMachine.cpu.s.toNat ∧ aMachine.cpu.s.toNat < 0x2000 := by decide +kernel

theorem witness_BlockMoveStep : aBus.storeCell 0x7E0001 ≠ some (.wram, 0) ∧ aBus.storeCell 0x008000 = none := by decide +kernel

theorem witness_EveryInstructionCompletes : aMachine.bus.cart.isSome = true ∧ aMachine.params.uninitRead = .draw ∧ State.reset.bus.cart = none := by decide +kernel

theorem witness_FlagWriters :
    Instr.mnemonic .nop ∉ carryWriters ∧ Instr.mnemonic .nop ∉ zeroWriters ∧ Instr.mnemonic .nop ∉ negativeWriters ∧
    Instr.mnemonic .nop ∉ overflowWriters ∧ Instr.mnemonic .nop ∉ maskWriters ∧ Instr.mnemonic .nop ∉ decimalWriters ∧
    Instr.mnemonic .nop ∉ widthWriters := by decide

theorem witness_RegisterWriters :
    Instr.mnemonic .nop ∉ accumulatorWriters ∧ Instr.mnemonic .nop ∉ stackWriters ∧ Instr.mnemonic .rti = .rti ∧
    (machine (emulation 0x30) [0x40] [] []).cpu.p.e = true := by decide +kernel

theorem witness_MemoryWriters : Instr.mnemonic .nop ∉ memoryWriters := by decide

/-- An ordinary boundary, decidably. -/
theorem quiet_iff (s : State) :
    Quiet s ↔ (s.bus.cart.isSome && decide (s.run = .running) && !(line s).reset && !(line s).irq && !nmiRequested s) = true := by
  simp [Quiet, and_assoc]

/-- With an input supplied, an NMI line held, an agent, right after one of the instructions of R418. -/
theorem witness_StepRunsDecodedInstruction :
    let m := aBoundary .running 0x00 { nmi := true, agentWmAddr := some 5 }
    let s := { m with nmiPrev := true, iBefore := some true, params := { extAgent := true } }
    let u := latched s
    let op := u.read8 (addr24 u.cpu.pb u.cpu.pc)
    let rest := State.fetchBytes u.cpu.pb (u.cpu.pc + 1) (operandBytes u.cpu.widths op.1) op.2
    Quiet s ∧ s.params.uninitRead = .draw ∧ decode u.cpu.widths (op.1 :: rest.1) = .ok (.ldaImm (.word 0x1234), []) ∧
    Instr.wellFormed u.cpu.widths (.ldaImm (.word 0x1234)) = true := by
  simp only [quiet_iff]
  decide +kernel

/-- A PHK that reads the unwritten S.l, a CLC that goes on, a cell unwritten and one a store reaches. -/
theorem witness_UninitialisedReads :
    let s := unwritten [0x4B]
    let f := (latched s).fetch
    s.params.uninitRead = .fault ∧ s.bus.cart.isSome = true ∧ Quiet s ∧ Drawn.sLo ∈ drawnReads f.1 (latched s).cpu ∧
    Drawn.sLo ∈ f.2.marks.unwritten ∧ (match step (unwritten [0x18]) with | .next _ => true | _ => false) = true ∧
    s.bus.locate 0x000010 = some (.wram, 0x10) ∧ s.bus.storeCell 0x000010 = some (.wram, 0x10) ∧
    ramIndex (.wram, 0x10) = some 0x10 ∧ s.marks.cells.read 0x10 = 0 ∧ s.marks.wf = true := by
  simp only [quiet_iff]
  decide +kernel

theorem witness_ResetValues : constructCartridge blankImage = some blankCartridge := by decide +kernel

theorem witness_ResetTaken :
    let s := aBoundary .stopped 0x00 { reset := true }
    s.bus.cart.isSome = true ∧ s.params.uninitRead = .draw ∧ (line s).reset = true := by decide +kernel

theorem witness_NmiTaken :
    let s := aBoundary .waiting 0x00 { nmi := true }
    s.bus.cart.isSome = true ∧ s.params.uninitRead = .draw ∧ (line s).reset = false ∧ s.run ≠ .stopped ∧ nmiRequested s = true := by decide +kernel

theorem witness_IrqAtBoundary :
    let s := aBoundary .running 0x00 { irq := true }
    let m := aBoundary .waiting 0x04 { irq := true }
    (s.bus.cart.isSome = true ∧ s.params.uninitRead = .draw ∧ (line s).reset = false ∧ s.run ≠ .stopped ∧ nmiRequested s = false ∧ (line s).irq = true ∧
      maskInForce s = false) ∧
    (m.bus.cart.isSome = true ∧ m.params.uninitRead = .draw ∧ (line m).reset = false ∧ m.run ≠ .stopped ∧ nmiRequested m = false ∧ (line m).irq = true ∧
      maskInForce m = true) := by decide +kernel

theorem witness_WaitingAndStoppedStay :
    let s := aBoundary .stopped 0x00 { nmi := true }
    let m := aBoundary .waiting 0x00 {}
    (s.bus.cart.isSome = true ∧ s.params.uninitRead = .draw ∧ (line s).reset = false ∧ s.run = .stopped) ∧
    (m.bus.cart.isSome = true ∧ m.params.uninitRead = .draw ∧ (line m).reset = false ∧ m.run = .waiting ∧ nmiRequested m = false ∧ (line m).irq = false) := by
  decide +kernel

theorem witness_AgentBounds :
    aMachine.params.extAgent = false ∧ aMachine.bus.wf = true ∧ aMachine.params.uninitRead = .draw ∧
    { aMachine with params := { extAgent := true } }.params.extAgent = true := by decide +kernel

theorem witness_StepKeepsInvariant :
    aMachine.inv = true ∧ (match step aMachine with | .next _ => true | _ => false) = true := by decide +kernel

theorem witness_ResetMeetsInvariant :
    blankImage.bytes.wf blankImage.size = true ∧ (State.reset.boot blankImage).isSome = true := by decide +kernel

theorem witness_ConfigurationIsFixed : (match step aMachine with | .next _ => true | _ => false) = true := by decide +kernel

end Sys2Proof.Tests
end

section
/-! PROOFS. What every instruction and every boundary keeps, said once: none stops, and each goes to a state it evolves to. -/

namespace Sys2Proof.Machine

/-! ## One relation for all that a step does -/

/-- What every part of a step keeps: the parameters and the cartridge (R48, R53), the count of cycles from falling (R50), the
memories canonical, and the record of unwritten reads (R54). -/
structure State.EvolvesTo (s t : State) : Prop where
  params : t.params = s.params
  cart   : t.bus.cart = s.bus.cart
  cycles : s.cycles ≤ t.cycles
  wf     : s.bus.wf = true → t.bus.wf = true
  record : s.RecordKept t.marks

/-- A change that leaves parameters, bus and record alone and does not lower the count of cycles. -/
theorem State.EvolvesTo.of_same {s t : State} (hp : t.params = s.params) (hb : t.bus = s.bus) (hm : t.marks = s.marks)
    (hc : s.cycles ≤ t.cycles) : s.EvolvesTo t where
  params := hp
  cart := congrArg Bus.cart hb
  cycles := hc
  wf := hb ▸ id
  record := hm ▸ .refl s

theorem State.EvolvesTo.refl (s : State) : s.EvolvesTo s := .of_same rfl rfl rfl le_rfl

theorem State.EvolvesTo.trans {s t u : State} (h : s.EvolvesTo t) (k : t.EvolvesTo u) : s.EvolvesTo u where
  params := k.params.trans h.params
  cart := k.cart.trans h.cart
  cycles := h.cycles.trans k.cycles
  wf := k.wf ∘ h.wf
  record := k.record.after h.record h.params

/-- A violation of the record is never taken back. -/
theorem State.EvolvesTo.violated {s t : State} (h : s.EvolvesTo t) (hv : s.marks.violated = true) : t.marks.violated = true := by
  obtain ⟨_, violated, _⟩ := h.record
  exact violated hv

theorem State.MovesTo.evolvesTo {s t : State} (h : s.MovesTo t) : s.EvolvesTo t := by
  obtain ⟨c, b, m, rfl, hc, hw, hm⟩ := h
  exact ⟨rfl, hc, le_rfl, hw, hm⟩

theorem State.AccessesTo.evolvesTo {s t : State} (h : s.AccessesTo t) : s.EvolvesTo t := h.movesTo.evolvesTo

theorem State.ReadsTo.evolvesTo {s t : State} (h : s.ReadsTo t) : s.EvolvesTo t := h.movesTo.evolvesTo

theorem State.mapCpu_evolvesTo (f : Cpu → Cpu) (s : State) : s.EvolvesTo (s.mapCpu f) := (s.mapCpu_movesTo f).evolvesTo

/-! ## The end of an instruction -/

theorem State.charge_evolvesTo (op : Byte) (pc tk : Bool) (tg : Word) (s0 s : State) :
    s.EvolvesTo (State.charge op pc tk tg s0 s) := .of_same rfl rfl rfl (Nat.le_add_right _ _)

theorem State.retire_evolvesTo (op : Byte) (pc : Bool) (s0 s : State) : s.EvolvesTo (State.retire op pc s0 s) :=
  (State.charge_evolvesTo op pc false 0 s0 s).trans (State.mapCpu_evolvesTo _ _)

theorem State.retireAt_evolvesTo (op : Byte) (tg : Word) (s0 s : State) : s.EvolvesTo (State.retireAt op tg s0 s) :=
  (State.charge_evolvesTo op false false tg s0 s).trans (State.mapCpu_evolvesTo _ _)

theorem State.retireFar_evolvesTo (op : Byte) (tg : Addr) (s0 s : State) : s.EvolvesTo (State.retireFar op tg s0 s) :=
  (State.retireAt_evolvesTo op (offsetOf tg) s0 s).trans (State.mapCpu_evolvesTo _ _)

theorem State.markMask_evolvesTo (s0 s : State) : s.EvolvesTo (State.markMask s0 s) := .of_same rfl rfl rfl le_rfl

/-! ## The shared forms of the instructions -/

theorem impliedInstr_evolvesTo (op : Byte) (f : Cpu → Cpu) (s : State) : s.EvolvesTo (impliedInstr op f s) :=
  (s.mapCpu_evolvesTo f).trans (State.retire_evolvesTo _ _ _ _)

theorem readInstr_evolvesTo (op : Byte) (o : Operand) (w : Width) (f : Word → State → State) (s : State)
    (hf : ∀ m (t : State), t.EvolvesTo (f m t)) : s.EvolvesTo (readInstr op o w f s) :=
  ((readOperand_readsTo o w s).evolvesTo.trans (hf _ _)).trans (State.retire_evolvesTo _ _ _ _)

/-- The shape of every instruction that only writes registers from its operand. -/
theorem readInstr_mapCpu_evolvesTo (op : Byte) (o : Operand) (w : Width) (g : Word → Cpu → Cpu) (s : State) :
    s.EvolvesTo (readInstr op o w (fun m t => t.mapCpu (g m)) s) :=
  readInstr_evolvesTo op o w _ s fun m t => t.mapCpu_evolvesTo (g m)

theorem State.addTo_evolvesTo (w : Width) (sub : Bool) (m : Word) (s : State) : s.EvolvesTo (s.addTo w sub m) := by
  unfold State.addTo
  split
  · exact .of_same rfl rfl rfl le_rfl
  · exact s.mapCpu_evolvesTo _

theorem storeInstr_evolvesTo (op : Byte) (o : Operand) (w : Width) (v : Word) (s : State) :
    s.EvolvesTo (storeInstr op o w v s) :=
  (storeOperand_accessesTo o w v s).evolvesTo.trans (State.retire_evolvesTo _ _ _ _)

theorem rmw_evolvesTo (o : Operand) (w : Width) (f : Word → Word) (s : State) : s.EvolvesTo (rmw o w f s).st := by
  by_cases ho : o = .accumulator
  · subst ho
    dsimp only [rmw]
    exact s.mapCpu_evolvesTo _
  · exact (rmw_accessesTo o w f s ho).evolvesTo

theorem rmwInstr_evolvesTo (op : Byte) (o : Operand) (w : Width) (f : Word → Word) (g : Word → Word → Cpu → Cpu) (s : State) :
    s.EvolvesTo (rmwInstr op o w f g s) :=
  ((rmw_evolvesTo o w f s).trans (State.mapCpu_evolvesTo _ _)).trans (State.retire_evolvesTo _ _ _ _)

theorem stackInstr_evolvesTo (op : Byte) (f : Bool → State → State) (s : State) (hf : ∀ nw, s.EvolvesTo (f nw s)) :
    s.EvolvesTo (stackInstr op f s) :=
  ((hf _).trans (State.mapCpu_evolvesTo _ _)).trans (State.retire_evolvesTo _ _ _ _)

theorem pullThen_evolvesTo (w : Width) (f : Word → Cpu → Cpu) (nw : Bool) (s : State) : s.EvolvesTo (pullThen w f nw s) :=
  (s.pullW_movesTo nw w).evolvesTo.trans (State.mapCpu_evolvesTo _ _)

/-- The pulls, each a value of a width and registers written from it. -/
theorem pullInstr_evolvesTo (op : Byte) (w : Width) (f : Word → Cpu → Cpu) (s : State) :
    s.EvolvesTo (stackInstr op (pullThen w f) s) :=
  stackInstr_evolvesTo op _ s fun nw => pullThen_evolvesTo w f nw s

theorem branch_evolvesTo (op rel : Byte) (taken : Bool) (s : State) : s.EvolvesTo (branch op rel taken s) := by
  unfold branch
  exact (State.charge_evolvesTo _ _ _ _ _ _).trans (State.mapCpu_evolvesTo _ _)

theorem jumpIndirect_evolvesTo (op bank : Byte) (off : Word) (s : State) : s.EvolvesTo (jumpIndirect op bank off s) :=
  (s.readPtr_readsTo bank off).evolvesTo.trans (State.retireAt_evolvesTo _ _ _ _)

theorem blockMove_evolvesTo (op dst src : Byte) (step : Word) (s : State) : s.EvolvesTo (blockMove op dst src step s) := by
  unfold blockMove
  exact (((s.read8_readsTo _).evolvesTo.trans (State.write8_accessesTo _ _ _).evolvesTo).trans
    (State.charge_evolvesTo _ _ _ _ _ _)).trans (State.mapCpu_evolvesTo _ _)

theorem softwareInterrupt_evolvesTo (op : Byte) (kind : VectorKind) (s : State) : s.EvolvesTo (softwareInterrupt op kind s) :=
  (s.enterException_movesTo _ _ _ _).evolvesTo.trans (State.charge_evolvesTo _ _ _ _ _ _)

/-! ## Every instruction -/

theorem bitOf_evolvesTo (op : Byte) (o : Operand) (s : State) : s.EvolvesTo (bitOf op o s) := by
  unfold bitOf
  split <;> exact readInstr_mapCpu_evolvesTo _ _ _ _ _

/-- The mnemonics of several addressing modes. -/
theorem perform_evolvesTo (m : Mnemonic) (op : Byte) (o : Operand) (s t : State) (h : perform m op o s = some t) :
    s.EvolvesTo t := by
  cases m <;> cases h
  case lda | ldx | ldy | cmp | cpx | cpy | and | ora | eor => exact readInstr_mapCpu_evolvesTo _ _ _ _ _
  case adc | sbc => exact readInstr_evolvesTo _ _ _ _ _ fun _ t => t.addTo_evolvesTo _ _ _
  case bit => exact bitOf_evolvesTo op o s
  case sta | stx | sty | stz => exact storeInstr_evolvesTo _ _ _ _ _
  case tsb | trb | inc | dec | asl | lsr | rol | ror => exact rmwInstr_evolvesTo _ _ _ _ _ _

/-- Every instruction executes in every state, none stops (R140, R410, R427, R434), and evolves the state. -/
theorem exec_evolvesTo (i : Instr) (s : State) : ∃ t, exec i s = .next t ∧ s.EvolvesTo t := by
  cases hp : perform i.mnemonic i.opcode i.operand s with
  | some t => exact ⟨t, exec_of_perform i s t hp, perform_evolvesTo _ _ _ s t hp⟩
  | none =>
    cases i
    -- registers only
    case clc | cld | clv | sec | sed | xce | nop | wdm | tax | tay | txa | tya | txy | tyx | tsx | txs | tcs | tsc | tcd | tdc
        | xba | inx | iny | dex | dey =>
      exact ⟨_, rfl, impliedInstr_evolvesTo _ _ s⟩
    case cli | sei | rep | sep => exact ⟨_, rfl, (impliedInstr_evolvesTo _ _ s).trans (State.markMask_evolvesTo _ _)⟩
    case wai | stp => exact ⟨_, rfl, (impliedInstr_evolvesTo _ _ s).trans (.of_same rfl rfl rfl le_rfl)⟩
    -- branches and jumps
    case bcc | bcs | beq | bne | bmi | bpl | bvc | bvs | bra => exact ⟨_, rfl, branch_evolvesTo _ _ _ s⟩
    case brl | jmpAbs => exact ⟨_, rfl, State.retireAt_evolvesTo _ _ _ s⟩
    case jmpAbsInd | jmpAbsIndX => exact ⟨_, rfl, jumpIndirect_evolvesTo _ _ _ s⟩
    case jmlLong => exact ⟨_, rfl, State.retireFar_evolvesTo _ _ _ s⟩
    case jmlAbsIndLong =>
      exact ⟨_, rfl, (s.read24At_readsTo _ _ _).evolvesTo.trans (State.retireFar_evolvesTo _ _ _ _)⟩
    -- calls and returns
    case jsrAbs =>
      exact ⟨_, rfl, ((s.push16_movesTo _ _).trans (State.mapCpu_movesTo _ _)).evolvesTo.trans
        (State.retireAt_evolvesTo _ _ _ _)⟩
    case jsrAbsIndX =>
      exact ⟨_, rfl, (((s.push16_movesTo _ _).trans (State.readPtr_readsTo _ _ _).movesTo).trans
        (State.mapCpu_movesTo _ _)).evolvesTo.trans (State.retireAt_evolvesTo _ _ _ _)⟩
    case jsl =>
      exact ⟨_, rfl, (((s.push8_movesTo _ _).trans (State.push16_movesTo _ _ _)).trans
        (State.mapCpu_movesTo _ _)).evolvesTo.trans (State.retireFar_evolvesTo _ _ _ _)⟩
    case rts =>
      exact ⟨_, rfl, ((s.pull16_movesTo _).trans (State.mapCpu_movesTo _ _)).evolvesTo.trans
        (State.retireAt_evolvesTo _ _ _ _)⟩
    case rtl =>
      exact ⟨_, rfl, (((s.pull16_movesTo _).trans (State.pull8_movesTo _ _)).trans
        (State.mapCpu_movesTo _ _)).evolvesTo.trans (State.retireFar_evolvesTo _ _ _ _)⟩
    -- the stack
    case pha | phx | phy => exact ⟨_, rfl, stackInstr_evolvesTo _ _ s fun nw => (s.pushW_movesTo nw _ _).evolvesTo⟩
    case php | phb | phk => exact ⟨_, rfl, stackInstr_evolvesTo _ _ s fun nw => (s.push8_movesTo nw _).evolvesTo⟩
    case phd | pea | per => exact ⟨_, rfl, stackInstr_evolvesTo _ _ s fun nw => (s.push16_movesTo nw _).evolvesTo⟩
    case pei =>
      exact ⟨_, rfl, stackInstr_evolvesTo _ _ s fun nw =>
        ((s.read16At_readsTo _ _).movesTo.trans (State.push16_movesTo nw _ _)).evolvesTo⟩
    case pla | plx | ply | plb | pld => exact ⟨_, rfl, pullInstr_evolvesTo _ _ _ s⟩
    case plp => exact ⟨_, rfl, (pullInstr_evolvesTo _ _ _ s).trans (State.markMask_evolvesTo _ _)⟩
    -- exceptions and block moves
    case brk | cop => exact ⟨_, rfl, softwareInterrupt_evolvesTo _ _ s⟩
    case rti =>
      exact ⟨_, rfl, ((s.returnFromException_movesTo _).evolvesTo.trans (State.charge_evolvesTo _ _ _ _ _ _)).trans
        (State.markMask_evolvesTo _ _)⟩
    case mvn | mvp => exact ⟨_, rfl, blockMove_evolvesTo _ _ _ _ s⟩
    -- the mnemonics of several addressing modes are not among these
    all_goals
      dsimp only [Instr.mnemonic, Instr.opcode] at hp
      cases hp

/-! ## Every boundary -/

theorem State.fetch_noteInstr_evolvesTo (s : State) : s.EvolvesTo (s.fetch.2.noteInstr s.fetch.1) :=
  s.fetch_readsTo.evolvesTo.trans (State.noteInstr_accessesTo _ _).evolvesTo

theorem State.executeNext_evolvesTo (s : State) : ∃ t, s.executeNext = .next t ∧ s.EvolvesTo t := by
  obtain ⟨t, ht, k⟩ := exec_evolvesTo s.fetch.1 (s.fetch.2.noteInstr s.fetch.1)
  exact ⟨t, ht, s.fetch_noteInstr_evolvesTo.trans k⟩

theorem State.leaveBoundary_evolvesTo (s : State) : s.EvolvesTo s.leaveBoundary := .of_same rfl rfl rfl le_rfl

theorem State.latchNmi_evolvesTo (nmi : Bool) (s : State) : s.EvolvesTo (s.latchNmi nmi) := .of_same rfl rfl rfl le_rfl

theorem State.effectiveMask_evolvesTo (s : State) : s.EvolvesTo s.effectiveMask.2 := by
  unfold State.effectiveMask
  split
  · exact .refl s
  · split
    · exact .refl s
    · exact .of_same rfl rfl rfl le_rfl

theorem State.interrupt_evolvesTo (kind : VectorKind) (s : State) : s.EvolvesTo (s.interrupt kind) := by
  have entry := (s.enterException_movesTo s.params.noWrapInt s.cpu.pc (hardwareImage s.cpu.p)
    (vectorAddress s.cpu.p.e kind)).evolvesTo
  unfold State.interrupt
  generalize State.enterException _ _ _ _ s = t at entry ⊢
  exact entry.trans (.of_same rfl rfl rfl (Nat.le_add_right _ _))

theorem State.takeInterrupt_evolvesTo (kind : VectorKind) (s : State) : s.EvolvesTo (s.takeInterrupt kind) :=
  (s.note_accessesTo (Marks.keeps_read _)).evolvesTo.trans (State.interrupt_evolvesTo _ _)

theorem State.resetSequence_evolvesTo (nmi : Bool) (s : State) : s.EvolvesTo (s.resetSequence nmi) := by
  have h : s.EvolvesTo { s.mapCpu Cpu.resetRegisters with nmiPending := false, nmiPrev := nmi, run := .running, iBefore := none } :=
    .of_same rfl rfl rfl le_rfl
  unfold State.resetSequence
  exact (h.trans (State.readPtr_readsTo _ _ _).evolvesTo).trans (State.mapCpu_evolvesTo _ _)

theorem State.irqOrExecute_evolvesTo (irq : Bool) (s : State) : ∃ t, s.irqOrExecute irq = .next t ∧ s.EvolvesTo t := by
  unfold State.irqOrExecute
  split
  · have left := s.effectiveMask_evolvesTo.trans s.effectiveMask.2.leaveBoundary_evolvesTo
    dsimp only
    split
    · obtain ⟨t, ht, k⟩ := s.effectiveMask.2.leaveBoundary.executeNext_evolvesTo
      exact ⟨t, ht, left.trans k⟩
    · exact ⟨_, rfl, left.trans (State.takeInterrupt_evolvesTo _ _)⟩
  · split
    · exact ⟨s, rfl, .refl s⟩
    · obtain ⟨t, ht, k⟩ := s.leaveBoundary.executeNext_evolvesTo
      exact ⟨t, ht, s.leaveBoundary_evolvesTo.trans k⟩

theorem State.nmiOrLater_evolvesTo (inp : BoundaryInput) (s : State) : ∃ t, s.nmiOrLater inp = .next t ∧ s.EvolvesTo t := by
  have latch := s.latchNmi_evolvesTo inp.nmi
  unfold State.nmiOrLater
  dsimp only
  split
  · have left : s.EvolvesTo { (s.latchNmi inp.nmi).leaveBoundary with nmiPending := false } :=
      latch.trans (.of_same rfl rfl rfl le_rfl)
    exact ⟨_, rfl, left.trans (State.takeInterrupt_evolvesTo _ _)⟩
  · obtain ⟨t, ht, k⟩ := (s.latchNmi inp.nmi).irqOrExecute_evolvesTo inp.irq
    exact ⟨t, ht, latch.trans k⟩

/-- Every boundary of a machine with a cartridge goes on, before its unwritten reads are looked at. -/
theorem State.boundaryWith_evolvesTo (inp : BoundaryInput) (s : State) : ∃ t, s.boundaryWith inp = .next t ∧ s.EvolvesTo t := by
  have agent := (s.agentStep_accessesTo inp).evolvesTo
  unfold State.boundaryWith
  split
  · exact ⟨_, rfl, agent.trans (State.resetSequence_evolvesTo _ _)⟩
  · split
    · exact ⟨s, rfl, .refl s⟩
    · obtain ⟨t, ht, k⟩ := (s.agentStep inp).nmiOrLater_evolvesTo inp
      exact ⟨t, ht, agent.trans k⟩

/-- A step of a machine with a cartridge evolves the state, and then its unwritten reads are looked at. -/
theorem step_evolvesTo {s : State} (h : s.bus.cart.isSome = true) : ∃ t, step s = faultUnwritten (.next t) ∧ s.EvolvesTo t := by
  obtain ⟨t, ht, k⟩ := State.boundaryWith_evolvesTo (s.inputs.headD {}) { s with inputs := s.inputs.tail }
  have take : s.EvolvesTo { s with inputs := s.inputs.tail } := .of_same rfl rfl rfl le_rfl
  exact ⟨t, by rw [step_of_cart h, ht], take.trans k⟩

end Sys2Proof.Machine
end

section
/-! PROOFS. An ordinary boundary: its step is the execution of the instruction fetched. -/

namespace Sys2Proof.Claims
open Sys2Proof.Machine

/-- The agent leaves the NMI latches and the run state alone (R77). -/
theorem atBoundary_eq (s : State) :
    ∃ b m, atBoundary s = { s with bus := b, marks := m, inputs := s.inputs.tail } := by
  obtain ⟨b, m, h, _⟩ := State.agentStep_accessesTo (line s) { s with inputs := s.inputs.tail }
  exact ⟨b, m, h⟩

@[simp] theorem latched_params (s : State) : (latched s).params = s.params := by
  obtain ⟨b, m, h⟩ := atBoundary_eq s
  unfold latched
  rw [h]

/-- The boundary reaches the state an instruction starts from by latching NMI and leaving. -/
theorem leaveBoundary_latchNmi_atBoundary (s : State) :
    ((atBoundary s).latchNmi (line s).nmi).leaveBoundary = latched s := by
  obtain ⟨b, m, h⟩ := atBoundary_eq s
  unfold latched
  rw [h]
  rfl

/-- At an ordinary boundary the step fetches and executes from `latched` (R417). -/
theorem step_of_quiet {s : State} (q : Quiet s) : step s = faultUnwritten (latched s).executeNext := by
  obtain ⟨cart, run, reset, irq, nmi⟩ := q
  obtain ⟨b, m, ha⟩ := atBoundary_eq s
  have pending : ((atBoundary s).latchNmi (line s).nmi).nmiPending = false := by rw [ha]; exact nmi
  have running : ((atBoundary s).latchNmi (line s).nmi).run ≠ .waiting := by rw [ha]; simp [State.latchNmi, run]
  have later : (atBoundary s).nmiOrLater (line s) = (latched s).executeNext := by
    simp only [State.nmiOrLater, State.irqOrExecute, pending, running, irq, Bool.false_eq_true, if_false,
      leaveBoundary_latchNmi_atBoundary]
  rw [step_of_cart cart, ← later]
  exact congrArg faultUnwritten (State.boundaryWith_later reset (by simp [run]))

end Sys2Proof.Claims
end

section
/-! PROOFS. `UNINIT_READ = FAULT` (R7, R54, R463, R474): which reads violate the record, what a store marks, and how a step ends. -/

namespace Sys2Proof.Machine

/-! ## The record -/

theorem State.marksAfter_fault (f : Marks → Marks) {s : State} (h : s.params.uninitRead = .fault) :
    s.marksAfter f = f s.marks := by
  simp [State.marksAfter, h]

theorem Marks.read_violated {vs : List Drawn} {m : Marks} {d : Drawn} (hd : d ∈ vs) (hm : d ∈ m.unwritten) :
    (m.read vs).violated = true := by
  simp only [Marks.read, Bool.or_eq_true, List.any_eq_true, List.contains_iff_mem]
  exact .inr ⟨d, hd, hm⟩

theorem Marks.readCell_violated {c : CellId} {k : Nat} {m : Marks} (hk : ramIndex c = some k) (hm : m.cells.read k = 0) :
    (m.readCell (some c)).violated = true := by
  simp [Marks.readCell, hk, hm, Mem.unlisted]

theorem Marks.read_writeCell_same {c : CellId} {k : Nat} {m : Marks} (hk : ramIndex c = some k) (hm : m.wf = true) :
    (m.writeCell (some c)).cells.read k = 1 := by
  simp only [Marks.writeCell, Option.bind_some, hk]
  exact Mem.read_write_same ramCells m.cells k 1 ((Marks.wf_iff m).mp hm).1

/-! ## Bus accesses -/

/-- Where an address reaches a memory cell, a read at it is serviced (R70). -/
theorem Bus.deviceRead_isSome_of_locate {b : Bus} {a : Addr} {c : CellId} (r nd : Bool) (h : b.locate a = some c) :
    (b.deviceRead r nd a).1.isSome = true := by
  unfold Bus.locate at h
  unfold Bus.deviceRead
  cases ht : getTarget a <;> simp only [ht, reduceCtorEq] at h ⊢
  case wramA =>
    obtain ⟨l, hl, _⟩ := Option.map_eq_some_iff.mp h
    simp [hl]
  case wramPort =>
    obtain ⟨port, _⟩ := Option.ite_none_right_eq_some.mp h
    simp [Bus.portRead, port]
  case cart => simp [h]

theorem Bus.readMarks_violated {b : Bus} {a : Addr} {c : CellId} {k : Nat} {m : Marks} (r : Bool) (h : b.locate a = some c)
    (hk : ramIndex c = some k) (hm : m.cells.read k = 0) : (b.readMarks r a m).violated = true := by
  unfold Bus.readMarks
  rw [if_pos (Bus.deviceRead_isSome_of_locate r false h), h]
  exact ((Marks.keeps_read _).comp (Marks.keeps_write _) _).2 (Marks.readCell_violated hk hm)

theorem Bus.read_writeMarks_storeCell {b : Bus} {a : Addr} {c : CellId} {k : Nat} {m : Marks} (h : b.storeCell a = some c)
    (hk : ramIndex c = some k) (hm : m.wf = true) : (b.writeMarks a m).cells.read k = 1 := by
  unfold Bus.writeMarks
  rw [h]
  refine Marks.read_writeCell_same hk ((Marks.keeps_write _ _).1 ?_)
  split
  · exact (Marks.keeps_read _ m).1 hm
  · exact hm

/-! ## The end of a step -/

theorem faultUnwritten_violated {t : State} (h : t.params.uninitRead = .fault) (hv : t.marks.violated = true) :
    faultUnwritten (.next t) = .fault .uninitialisedRead := by
  simp [faultUnwritten, State.readUnwritten, h, hv]

theorem faultUnwritten_of_not_violated {t : State} (hv : t.marks.violated = false) : faultUnwritten (.next t) = .next t := by
  simp [faultUnwritten, State.readUnwritten, hv]

/-- The look at the unwritten reads lets a state through as it is, or not at all. -/
theorem eq_of_faultUnwritten_eq_next {r : Result} {t : State} (h : faultUnwritten r = .next t) : r = .next t := by
  unfold faultUnwritten at h
  split at h
  · split at h
    · cases h
    · exact h
  · cases h
  · cases h

/-- An instruction that reads a register or flag still unwritten leaves the record violated. -/
theorem State.executeNext_violated {s : State} (hp : s.params.uninitRead = .fault) {d : Drawn}
    (hd : d ∈ drawnReads s.fetch.1 s.cpu) (hu : d ∈ s.fetch.2.marks.unwritten) :
    ∃ t, s.executeNext = .next t ∧ t.params.uninitRead = .fault ∧ t.marks.violated = true := by
  obtain ⟨t, ht, k⟩ := exec_evolvesTo s.fetch.1 (s.fetch.2.noteInstr s.fetch.1)
  have fetched : s.fetch.2.params.uninitRead = .fault := s.fetch_readsTo.params_eq ▸ hp
  have noted : (s.fetch.2.noteInstr s.fetch.1).marks.violated = true := by
    rw [State.noteInstr_marks, State.marksAfter_fault _ fetched, s.fetch_readsTo.cpu_eq]
    exact (Marks.keeps_write _ _).2 (Marks.read_violated hd hu)
  exact ⟨t, ht, k.params ▸ fetched, k.violated noted⟩

end Sys2Proof.Machine

namespace Sys2Proof.Claims
open Sys2Proof.Machine

/-- Settles O60: a step evolves the state and then either passes the look at the record or faults; a violation is never taken back
within it. -/
theorem uninitialisedReads : Obligations.UninitialisedReads := by
  intro s hp hc
  refine ⟨?_, fun q => ⟨fun d hd hu => ?_, fun t ht => ?_⟩, fun a c k hl hk hu => ?_, fun a v c k hw hl hk => ?_⟩
  · obtain ⟨t, ht, k⟩ := step_evolvesTo hc
    cases hv : t.marks.violated with
    | false => exact .inl ⟨t, ht.trans (faultUnwritten_of_not_violated hv), hv⟩
    | true => exact .inr (ht.trans (faultUnwritten_violated (k.params ▸ hp) hv))
  · obtain ⟨t, ht, hf, hv⟩ := State.executeNext_violated (by simpa using hp) hd hu
    rw [step_of_quiet q, ht, faultUnwritten_violated hf hv]
  · rw [step_of_quiet q] at ht
    exact ⟨_, eq_of_faultUnwritten_eq_next ht⟩
  · rw [State.read8_marks, State.marksAfter_fault _ hp]
    exact Bus.readMarks_violated _ hl hk hu
  · rw [State.write8_marks, State.marksAfter_fault _ hp]
    exact Bus.read_writeMarks_storeCell hl hk hw

end Sys2Proof.Claims
end

section
/-! PROOFS. Every instruction and every boundary keeps the invariant of the machine (R42, R43, R46 to R48). -/

namespace Sys2Proof.Machine

/-! ## Register updates of one instruction only -/

/-- One step of a block move leaves the index registers within the width the invariant asks for (R400). -/
theorem blockMove_inv {op dst src : Byte} {step : Word} {s : State} (hs : s.inv = true) :
    (blockMove op dst src step s).inv = true := by
  have moved : (((s.read8 (addr24 src s.cpu.x)).2).write8 (addr24 dst s.cpu.y) (s.read8 (addr24 src s.cpu.x)).1).inv = true :=
    State.inv_of_accesses ((s.read8_readsTo _).accessesTo.trans (State.write8_accessesTo _ _ _)) hs
  refine State.inv_mapCpu (s := State.charge op false false 0 s _) moved ?_
  rw [State.inv_iff, Cpu.inv_iff] at hs
  obtain ⟨⟨emulation, _⟩, _⟩ := hs
  rw [Cpu.inv_iff]
  refine ⟨emulation, fun hx => ?_⟩
  have narrow : s.cpu.xw = .w8 := Cpu.xw_of_x hx
  simp [narrow]

/-! ## Pulls -/

theorem Cpu.invWithin_loadA {nw : Bool} {c : Cpu} (w : Width) (v : Word) (h : c.invWithin nw) : (c.loadA w v).invWithin nw := by
  cases w <;> exact h

theorem Cpu.invWithin_loadX {nw : Bool} {c : Cpu} (v : Word) (h : c.invWithin nw) : (c.loadX c.xw v).invWithin nw := by
  obtain ⟨⟨emulation, index⟩, page⟩ := h
  refine ⟨⟨emulation, fun hx => ⟨?_, (index hx).2⟩⟩, page⟩
  rw [Cpu.xw_of_x (c := c) hx]
  exact wordHi_trunc8 v

theorem Cpu.invWithin_loadY {nw : Bool} {c : Cpu} (v : Word) (h : c.invWithin nw) : (c.loadY c.xw v).invWithin nw := by
  obtain ⟨⟨emulation, index⟩, page⟩ := h
  refine ⟨⟨emulation, fun hx => ⟨(index hx).1, ?_⟩⟩, page⟩
  rw [Cpu.xw_of_x (c := c) hx]
  exact wordHi_trunc8 v

/-- A pull leaves the widths as they were at decode. -/
theorem State.pullW_xw (nw : Bool) (w : Width) (s : State) : (s.pullW nw w).2.cpu.xw = s.cpu.xw := by
  cases w <;> rfl

/-- A pull: what is written from the value may rely on the index width at decode. -/
theorem pullInstr_inv {op : Byte} {w : Width} {f : Word → Cpu → Cpu} {s : State} (hs : s.inv = true)
    (hf : ∀ nw v (c : Cpu), c.xw = s.cpu.xw → c.invWithin nw → (f v c).invWithin nw) :
    (stackInstr op (pullThen w f) s).inv = true :=
  stackInstr_inv hs fun nw h =>
    have pulled := State.pullW_within (w := w) h
    ⟨hf nw _ _ (s.pullW_xw nw w) pulled.1, pulled.2⟩

/-! ## Every instruction -/

/-- A compare, a test or a result in A and the flags: the update of the registers leaves what the invariants read. -/
theorem readInstr_inv_of_eq {op : Byte} {o : Operand} {w : Width} {g : Word → Cpu → Cpu} {s : State} (hs : s.inv = true)
    (h : ∀ m, (g m s.cpu).inv = s.cpu.inv) : (readInstr op o w (fun m t => t.mapCpu (g m)) s).inv = true :=
  readInstr_inv hs fun m hc => (h m).trans hc

theorem bitOf_inv {op : Byte} {o : Operand} {s : State} (hs : s.inv = true) : (bitOf op o s).inv = true := by
  unfold bitOf
  split
  · exact readInstr_inv_of_eq hs fun _ => Cpu.inv_testZ _ _ _
  · exact readInstr_inv_of_eq hs fun _ => Cpu.inv_bitMemory _ _ _

/-- The mnemonics of several addressing modes. -/
theorem perform_inv {m : Mnemonic} {op : Byte} {o : Operand} {s t : State} (hs : s.inv = true)
    (h : perform m op o s = some t) : t.inv = true := by
  cases m <;> cases h
  case lda | and | ora | eor => exact readInstr_inv_of_eq hs fun _ => Cpu.inv_loadA _ _ _
  case ldx => exact readInstr_inv hs fun _ => Cpu.inv_loadX _ _
  case ldy => exact readInstr_inv hs fun _ => Cpu.inv_loadY _ _
  case cmp | cpx | cpy => exact readInstr_inv_of_eq hs fun _ => Cpu.inv_compare _ _ _ _
  case adc | sbc => exact adder_inv hs
  case bit => exact bitOf_inv hs
  case sta | stx | sty | stz => exact storeInstr_inv hs
  case tsb | trb | inc | dec | asl | lsr | rol | ror => exact rmwInstr_inv hs fun _ _ _ hc => hc

/-- Every instruction keeps the invariant, in whatever mode it executes. -/
theorem exec_inv (i : Instr) {s : State} (hs : s.inv = true) : ∃ t, exec i s = .next t ∧ t.inv = true := by
  have within := fun nw => State.invWithin_of_inv nw hs
  cases hp : perform i.mnemonic i.opcode i.operand s with
  | some t => exact ⟨t, exec_of_perform i s t hp, perform_inv hs hp⟩
  | none =>
    cases i
    -- registers only
    case clc | cld | clv | sec | sed | nop | wdm | cli | sei | wai | stp => exact ⟨_, rfl, impliedInstr_inv hs id⟩
    case rep => exact ⟨_, rfl, impliedInstr_inv hs (Cpu.inv_resetBits _ _)⟩
    case sep => exact ⟨_, rfl, impliedInstr_inv hs (Cpu.inv_setBits _ _)⟩
    case xce => exact ⟨_, rfl, impliedInstr_inv hs (Cpu.inv_exchange _)⟩
    case txa | tya => exact ⟨_, rfl, impliedInstr_inv hs (Cpu.inv_loadA _ _ _).trans⟩
    case tsc | tcd | tdc | xba => exact ⟨_, rfl, impliedInstr_inv hs id⟩
    case tax | tyx | tsx | inx | dex => exact ⟨_, rfl, impliedInstr_inv hs (Cpu.inv_loadX _ _)⟩
    case tay | txy | iny | dey => exact ⟨_, rfl, impliedInstr_inv hs (Cpu.inv_loadY _ _)⟩
    case txs | tcs => exact ⟨_, rfl, impliedInstr_inv hs (Cpu.inv_setS _ _)⟩
    -- branches and jumps
    case bcc | bcs | beq | bne | bmi | bpl | bvc | bvs | bra | brl | jmpAbs | jmlLong => exact ⟨_, rfl, hs⟩
    case jmpAbsInd | jmpAbsIndX =>
      exact ⟨_, rfl, State.inv_retireAt (State.inv_of_accesses (s.readPtr_readsTo _ _).accessesTo hs)⟩
    case jmlAbsIndLong =>
      exact ⟨_, rfl, State.inv_retireFar (State.inv_of_accesses (s.read24At_readsTo _ _ _).accessesTo hs)⟩
    -- calls and returns
    case jsrAbs => exact ⟨_, rfl, State.inv_retireAt (State.inv_restore (State.push16_within (within _)))⟩
    case jsrAbsIndX =>
      exact ⟨_, rfl, State.inv_retireAt (State.inv_restore
        (State.invWithin_of_accesses (State.readPtr_readsTo _ _ _).accessesTo (State.push16_within (within _))))⟩
    case jsl =>
      exact ⟨_, rfl, State.inv_retireFar (State.inv_restore (State.push16_within (State.push8_within (within _))))⟩
    case rts => exact ⟨_, rfl, State.inv_retireAt (State.inv_restore (State.pull16_within (within _)))⟩
    case rtl =>
      exact ⟨_, rfl, State.inv_retireFar (State.inv_restore (State.pull8_within (State.pull16_within (within _))))⟩
    -- the stack
    case pha | phx | phy => exact ⟨_, rfl, stackInstr_inv hs fun _ => State.pushW_within⟩
    case php | phb | phk => exact ⟨_, rfl, stackInstr_inv hs fun _ => State.push8_within⟩
    case phd | pea | per => exact ⟨_, rfl, stackInstr_inv hs fun _ => State.push16_within⟩
    case pei =>
      exact ⟨_, rfl, stackInstr_inv hs fun _ h =>
        State.push16_within (State.invWithin_of_accesses (s.read16At_readsTo _ _).accessesTo h)⟩
    case pla => exact ⟨_, rfl, pullInstr_inv hs fun _ _ _ _ => Cpu.invWithin_loadA _ _⟩
    case plx => exact ⟨_, rfl, pullInstr_inv hs fun _ _ _ width h => width ▸ Cpu.invWithin_loadX _ h⟩
    case ply => exact ⟨_, rfl, pullInstr_inv hs fun _ _ _ width h => width ▸ Cpu.invWithin_loadY _ h⟩
    case plb | pld => exact ⟨_, rfl, pullInstr_inv hs fun _ _ _ _ h => h⟩
    case plp => exact ⟨_, rfl, pullInstr_inv hs fun _ _ _ _ => Cpu.invWithin_pullStatus _⟩
    -- exceptions and block moves
    case brk | cop => exact ⟨_, rfl, State.enterException_inv hs⟩
    case rti => exact ⟨_, rfl, State.returnFromException_inv hs⟩
    case mvn | mvp => exact ⟨_, rfl, blockMove_inv hs⟩
    -- the mnemonics of several addressing modes are not among these
    all_goals
      dsimp only [Instr.mnemonic, Instr.opcode] at hp
      cases hp

/-! ## Every boundary -/

theorem State.executeNext_inv {s : State} (hs : s.inv = true) : ∃ t, s.executeNext = .next t ∧ t.inv = true :=
  exec_inv s.fetch.1 (State.inv_of_accesses (s.fetch_readsTo.accessesTo.trans (State.noteInstr_accessesTo _ _)) hs)

theorem State.takeInterrupt_inv {kind : VectorKind} {s : State} (hs : s.inv = true) : (s.takeInterrupt kind).inv = true :=
  State.enterException_inv (State.inv_of_accesses (s.note_accessesTo (Marks.keeps_read _)) hs)

theorem State.effectiveMask_inv {s : State} (hs : s.inv = true) : s.effectiveMask.2.inv = true := by
  unfold State.effectiveMask
  split
  · exact hs
  · split <;> exact hs

theorem State.irqOrExecute_inv (irq : Bool) {s : State} (hs : s.inv = true) : ∃ t, s.irqOrExecute irq = .next t ∧ t.inv = true := by
  unfold State.irqOrExecute
  split
  · have left : s.effectiveMask.2.leaveBoundary.inv = true := State.effectiveMask_inv hs
    dsimp only
    split
    · exact State.executeNext_inv left
    · exact ⟨_, rfl, State.takeInterrupt_inv left⟩
  · split
    · exact ⟨s, rfl, hs⟩
    · exact State.executeNext_inv (s := s.leaveBoundary) hs

theorem State.nmiOrLater_inv (inp : BoundaryInput) {s : State} (hs : s.inv = true) :
    ∃ t, s.nmiOrLater inp = .next t ∧ t.inv = true := by
  have latched : (s.latchNmi inp.nmi).inv = true := hs
  unfold State.nmiOrLater
  dsimp only
  split
  · exact ⟨_, rfl, State.takeInterrupt_inv (s := { (s.latchNmi inp.nmi).leaveBoundary with nmiPending := false }) latched⟩
  · exact State.irqOrExecute_inv inp.irq latched

/-- Every boundary keeps the invariant: stopped nothing changes, a reset establishes the register invariants, and the later parts
keep them (R417). -/
theorem State.boundaryWith_inv (inp : BoundaryInput) {s : State} (hs : s.inv = true) :
    ∃ t, s.boundaryWith inp = .next t ∧ t.inv = true := by
  have agent : (s.agentStep inp).inv = true := State.inv_of_accesses (s.agentStep_accessesTo inp) hs
  obtain ⟨_, bus, marks⟩ := (State.inv_iff _).mp agent
  unfold State.boundaryWith
  split
  · exact ⟨_, rfl, State.resetSequence_inv bus marks⟩
  · split
    · exact ⟨s, rfl, hs⟩
    · exact State.nmiOrLater_inv inp agent

/-! ## A step that goes on -/

/-- A step that answers a next state is one of a machine with a cartridge, and the answer is its boundary's (R417, R434). -/
theorem isSome_cart_of_step_eq_next {s t : State} (h : step s = .next t) : s.bus.cart.isSome = true := by
  cases hc : s.bus.cart with
  | some cart => rfl
  | none => simp [step, State.boundary, hc] at h

theorem boundaryWith_of_step_eq_next {s t : State} (h : step s = .next t) :
    State.boundaryWith (s.inputs.headD {}) { s with inputs := s.inputs.tail } = .next t :=
  eq_of_faultUnwritten_eq_next ((step_of_cart (isSome_cart_of_step_eq_next h)).symm.trans h)

theorem evolvesTo_of_step_eq_next {s t : State} (h : step s = .next t) : s.EvolvesTo t := by
  obtain ⟨u, hu, k⟩ := step_evolvesTo (isSome_cart_of_step_eq_next h)
  cases eq_of_faultUnwritten_eq_next (hu.symm.trans h)
  exact k

end Sys2Proof.Machine

namespace Sys2Proof.Claims
open Sys2Proof.Machine

/-- Settles O57: the boundary of a step keeps the invariant in every run state, and a step answers its boundary's state. -/
theorem stepKeepsInvariant : Obligations.StepKeepsInvariant := by
  intro s t hs h
  obtain ⟨u, hu, inv⟩ := State.boundaryWith_inv (s.inputs.headD {}) (s := { s with inputs := s.inputs.tail }) hs
  cases hu.symm.trans (boundaryWith_of_step_eq_next h)
  exact inv

/-- Settles O59: a step that goes on evolves the state. -/
theorem configurationIsFixed : Obligations.ConfigurationIsFixed := by
  intro s t h
  have k := evolvesTo_of_step_eq_next h
  exact ⟨k.params, k.cart, k.cycles⟩

end Sys2Proof.Claims
end

section
/-! PROOFS. The machine after reset and after power-on with a cartridge file (R54, R460, R462): its values, and that it meets the
invariant. -/

namespace Sys2Proof.Machine

/-! ## Construction -/

/-- The bytes after a copier header are canonical where the file is (R92). -/
theorem RomImage.wfFrom_romData (skip size lo : Nat) (m : Mem) (hw : m.wfFrom size lo = true) :
    (RomImage.romData ⟨size, m⟩ skip).wfFrom (size - skip) (lo - skip) = true := by
  induction m generalizing lo with
  | nil => rfl
  | cons c rest ih =>
    obtain ⟨k, v⟩ := c
    simp only [Mem.wfFrom, Bool.and_eq_true, decide_eq_true_eq] at hw
    obtain ⟨⟨⟨hlo, hk⟩, hv⟩, hrest⟩ := hw
    have tail := ih (k + 1) hrest
    simp only [RomImage.romData, List.filterMap_cons] at tail ⊢
    by_cases hs : skip ≤ k
    · have next : k + 1 - skip = k - skip + 1 := by omega
      simp only [hs, hk, and_self, if_true, Mem.wfFrom, Bool.and_eq_true, decide_eq_true_eq]
      exact ⟨⟨⟨by omega, by omega⟩, hv⟩, next ▸ tail⟩
    · simp only [hs, false_and, if_false]
      exact Mem.wfFrom_mono _ _ _ _ (by omega) tail

theorem RomImage.romData_wf (img : RomImage) (skip : Nat) (hw : img.bytes.wf img.size = true) :
    (img.romData skip).wf (img.size - skip) = true := by
  have h := RomImage.wfFrom_romData skip img.size 0 img.bytes hw
  rwa [Nat.zero_sub] at h

/-- A canonical file makes a canonical cartridge. -/
theorem Cartridge.wf_of_construct {img : RomImage} {cart : Cartridge} (hw : img.bytes.wf img.size = true)
    (h : constructCartridge img = some cart) : cart.wf = true := by
  obtain ⟨hyp, _, rfl⟩ := Option.map_eq_some_iff.mp h
  exact img.romData_wf hyp.skip hw

/-- Inserting a canonical cartridge leaves the bus canonical. -/
theorem Bus.wf_insertCartridge {b : Bus} {cart : Cartridge} (hb : b.wf = true) (hc : cart.wf = true) :
    Bus.wf { b with cart := some cart } = true := by
  simp only [Bus.wf, Bool.and_eq_true] at hb ⊢
  exact ⟨hb.1, hc⟩

/-! ## The reset sequence -/

/-- A word from its bytes, as a number (R61). -/
theorem wordOf_eq_ofNat (hi lo : Byte) : wordOf hi lo = BitVec.ofNat 16 (lo.toNat + 256 * hi.toNat) := by
  refine BitVec.eq_of_toNat_eq ?_
  rw [wordOf, BitVec.toNat_append, ← Nat.shiftLeft_add_eq_or_of_lt lo.isLt, Nat.shiftLeft_eq, BitVec.toNat_ofNat]
  omega

theorem toNat_div_eq_wordHi (v : Word) : v.toNat / 256 = (wordHi v).toNat := by
  rw [wordHi, BitVec.toNat_setWidth, BitVec.toNat_ushiftRight, Nat.shiftRight_eq_div_pow]
  omega

/-- The high bytes of X, Y and S after the reset sequence, whatever they were (R54). -/
theorem Cpu.resetRegisters_pages (c : Cpu) :
    c.resetRegisters.x.toNat / 256 = 0 ∧ c.resetRegisters.y.toNat / 256 = 0 ∧ c.resetRegisters.s.toNat / 256 = 1 := by
  simp only [toNat_div_eq_wordHi]
  exact ⟨congrArg BitVec.toNat (wordHi_low c.x), congrArg BitVec.toNat (wordHi_low c.y),
    congrArg BitVec.toNat (wordHi_pageOne c.s)⟩

/-- The reset sequence reads its vector at 00:FFFC, whatever the mode (R421, R460). -/
theorem State.resetSequence_cpu (nmi : Bool) (s : State) :
    (s.resetSequence nmi).cpu = { s.cpu.resetRegisters with
      pc := BitVec.ofNat 16 (Claims.wordRead s.params.wmaddReadable 0xFFFC 0xFFFD s.bus).1 } := by
  rw [Claims.wordRead, ← wordOf_eq_ofNat]
  rfl

theorem State.resetSequence_bus (nmi : Bool) (s : State) :
    (s.resetSequence nmi).bus = (Claims.wordRead s.params.wmaddReadable 0xFFFC 0xFFFD s.bus).2 := rfl

/-- Power-on with a file that construction accepts: the reset sequence over the new cartridge, at boundary 0 (R462). -/
theorem State.boot_of_construct {img : RomImage} {cart : Cartridge} (s : State) (h : constructCartridge img = some cart) :
    s.boot img = some (State.resetSequence (s.inputs.headD {}).nmi
      { s with bus := { s.bus with cart := some cart }, inputs := s.inputs.tail }) := by
  simp [State.boot, h, State.takeInput_eq]

end Sys2Proof.Machine

namespace Sys2Proof.Claims
open Sys2Proof.Machine

/-- Settles O58: the file's ROM is canonical, the other memories and the record are as reset leaves them, and the reset sequence
establishes the rest. -/
theorem resetMeetsInvariant : Obligations.ResetMeetsInvariant := by
  refine ⟨by decide, fun img hw s h => ?_⟩
  obtain ⟨cart, hc, _⟩ := Option.map_eq_some_iff.mp h
  have marks : State.reset.marks.wf = true := by decide
  cases (State.boot_of_construct State.reset hc).symm.trans h
  exact State.resetSequence_inv (Bus.wf_insertCartridge State.reset_bus_wf (Cartridge.wf_of_construct hw hc)) marks

/-- Settles O51: power-on is the reset sequence over the cartridge, whose values are its own or those of State.reset. -/
theorem resetValues : Obligations.ResetValues := by
  unfold Obligations.ResetValues
  refine ⟨by decide, fun p ins img cart hc => ⟨_, State.boot_of_construct _ hc, ?_, ?_, ?_, ?_⟩⟩
  · obtain ⟨x, y, stack⟩ := State.reset.cpu.resetRegisters_pages
    exact ⟨rfl, rfl, rfl, rfl, rfl, x, y, stack, rfl, rfl, rfl, rfl, rfl, rfl⟩
  · exact congrArg Cpu.pc (State.resetSequence_cpu _ _)
  · exact State.resetSequence_bus _ _
  · exact ⟨rfl, rfl, rfl⟩

end Sys2Proof.Claims
end

section
/-! PROOFS. Who writes what (R21 to R43): each update of the register file changes only some of its parts, and every instruction
changes only parts that list its mnemonic among their writers. -/

namespace Sys2Proof.Machine

/-! ## The parts of the register file -/

/-- The registers but PC, and the nine flags. -/
inductive Part where
  | a | x | y | s | d | db | pb | flagN | flagV | flagM | flagX | flagD | flagI | flagZ | flagC | flagE

/-- What a part holds. -/
def Part.Carrier : Part → Type
  | .a | .x | .y | .s | .d => Word
  | .db | .pb => Byte
  | .flagN | .flagV | .flagM | .flagX | .flagD | .flagI | .flagZ | .flagC | .flagE => Bool

/-- The value of a part. -/
def Part.get : (q : Part) → Cpu → q.Carrier
  | .a, c => c.a
  | .x, c => c.x
  | .y, c => c.y
  | .s, c => c.s
  | .d, c => c.d
  | .db, c => c.db
  | .pb, c => c.pb
  | .flagN, c => c.p.n
  | .flagV, c => c.p.v
  | .flagM, c => c.p.m
  | .flagX, c => c.p.x
  | .flagD, c => c.p.d
  | .flagI, c => c.p.i
  | .flagZ, c => c.p.z
  | .flagC, c => c.p.c
  | .flagE, c => c.p.e

/-- Every part outside a list is as before. PC is free. -/
def Cpu.ChangesOnly (ps : List Part) (c d : Cpu) : Prop := ∀ q, q ∉ ps → q.get d = q.get c

theorem Cpu.ChangesOnly.refl (ps : List Part) (c : Cpu) : c.ChangesOnly ps c := fun _ _ => rfl

theorem Cpu.ChangesOnly.of_eq {c d : Cpu} (ps : List Part) (h : d = c) : c.ChangesOnly ps d := h ▸ .refl ps c

theorem Cpu.ChangesOnly.trans {ps qs : List Part} {c d e : Cpu} (h : c.ChangesOnly ps d) (k : d.ChangesOnly qs e) :
    c.ChangesOnly (ps ++ qs) e := fun q hq =>
  (k q fun m => hq (List.mem_append_right ps m)).trans (h q fun m => hq (List.mem_append_left qs m))

/-- Part by part, so that the laws of the register file apply. -/
theorem Cpu.changesOnly_iff (ps : List Part) (c d : Cpu) :
    c.ChangesOnly ps d ↔
      (.a ∉ ps → d.a = c.a) ∧ (.x ∉ ps → d.x = c.x) ∧ (.y ∉ ps → d.y = c.y) ∧ (.s ∉ ps → d.s = c.s) ∧
      (.d ∉ ps → d.d = c.d) ∧ (.db ∉ ps → d.db = c.db) ∧ (.pb ∉ ps → d.pb = c.pb) ∧
      (.flagN ∉ ps → d.p.n = c.p.n) ∧ (.flagV ∉ ps → d.p.v = c.p.v) ∧ (.flagM ∉ ps → d.p.m = c.p.m) ∧
      (.flagX ∉ ps → d.p.x = c.p.x) ∧ (.flagD ∉ ps → d.p.d = c.p.d) ∧ (.flagI ∉ ps → d.p.i = c.p.i) ∧
      (.flagZ ∉ ps → d.p.z = c.p.z) ∧ (.flagC ∉ ps → d.p.c = c.p.c) ∧ (.flagE ∉ ps → d.p.e = c.p.e) := by
  constructor
  · intro h
    exact ⟨h .a, h .x, h .y, h .s, h .d, h .db, h .pb, h .flagN, h .flagV, h .flagM, h .flagX, h .flagD, h .flagI, h .flagZ,
      h .flagC, h .flagE⟩
  · rintro ⟨a, x, y, s, d, db, pb, n, v, m, xf, df, i, z, c, e⟩ q
    cases q <;> assumption

/-- PC is not among the parts. -/
theorem Cpu.ChangesOnly.withPc {ps : List Part} {c d : Cpu} (h : c.ChangesOnly ps d) (pc : Word) :
    c.ChangesOnly ps { d with pc := pc } := by
  rw [changesOnly_iff] at h ⊢
  exact h

/-! ## Updates of the register file -/

theorem Cpu.setA_changes (w : Width) (v : Word) (c : Cpu) : c.ChangesOnly [.a] (c.setA w v) := by simp [changesOnly_iff]

theorem Cpu.setNZ_changes (v : Word) (w : Width) (c : Cpu) : c.ChangesOnly [.flagN, .flagZ] (c.setNZ v w) := by
  simp [changesOnly_iff]

theorem Cpu.loadA_changes (w : Width) (v : Word) (c : Cpu) : c.ChangesOnly [.a, .flagN, .flagZ] (c.loadA w v) := by
  simp [changesOnly_iff]

theorem Cpu.loadX_changes (w : Width) (v : Word) (c : Cpu) : c.ChangesOnly [.x, .flagN, .flagZ] (c.loadX w v) := by
  simp [changesOnly_iff]

theorem Cpu.loadY_changes (w : Width) (v : Word) (c : Cpu) : c.ChangesOnly [.y, .flagN, .flagZ] (c.loadY w v) := by
  simp [changesOnly_iff]

theorem Cpu.storeSum_changes (w : Width) (r : SumResult) (c : Cpu) :
    c.ChangesOnly [.a, .flagN, .flagV, .flagZ, .flagC] (c.storeSum w r) := by simp [changesOnly_iff]

theorem Cpu.compare_changes (w : Width) (a m : Word) (c : Cpu) :
    c.ChangesOnly [.flagN, .flagZ, .flagC] (c.compare w a m) := by simp [changesOnly_iff]

theorem Cpu.testZ_changes (w : Width) (m : Word) (c : Cpu) : c.ChangesOnly [.flagZ] (c.testZ w m) := by
  simp [changesOnly_iff]

theorem Cpu.bitMemory_changes (w : Width) (m : Word) (c : Cpu) :
    c.ChangesOnly [.flagN, .flagV, .flagZ] (c.bitMemory w m) := by simp [changesOnly_iff]

theorem Cpu.setNZC_changes (r : Word) (w : Width) (k : Bool) (c : Cpu) :
    c.ChangesOnly [.flagN, .flagZ, .flagC] (c.setNZC r w k) := by simp [changesOnly_iff]

theorem Cpu.setS_changes (v : Word) (c : Cpu) : c.ChangesOnly [.s] (c.setS v) := by simp [changesOnly_iff]

theorem Cpu.restoreStackPage_changes (nw : Bool) (c : Cpu) : c.ChangesOnly [.s] (c.restoreStackPage nw) := by
  simp [changesOnly_iff]

theorem Cpu.pullStatus_changes (v : Byte) (c : Cpu) :
    c.ChangesOnly [.x, .y, .flagN, .flagV, .flagM, .flagX, .flagD, .flagI, .flagZ, .flagC] (c.pullStatus v) := by
  simp [changesOnly_iff, Status.forceEmulation, Status.withByte]

theorem Cpu.resetBits_changes (m : Byte) (c : Cpu) :
    c.ChangesOnly [.flagN, .flagV, .flagM, .flagX, .flagD, .flagI, .flagZ, .flagC] (c.resetBits m) := by
  simp [changesOnly_iff, Status.forceEmulation, Status.withByte]

theorem Cpu.setBits_changes (m : Byte) (c : Cpu) :
    c.ChangesOnly [.x, .y, .flagN, .flagV, .flagM, .flagX, .flagD, .flagI, .flagZ, .flagC] (c.setBits m) := by
  simp [changesOnly_iff, Status.withByte]

theorem Cpu.exchange_changes (c : Cpu) : c.ChangesOnly [.x, .y, .s, .flagM, .flagX, .flagC, .flagE] c.exchange := by
  rw [changesOnly_iff]
  unfold Cpu.exchange
  dsimp only
  split <;> simp [Cpu.enterEmulation]

theorem Cpu.exchange_e (c : Cpu) : c.exchange.p.e = c.p.c := by
  unfold Cpu.exchange
  dsimp only
  split <;> rfl

/-! ## Pushes, pulls and exceptions -/

@[simp] theorem State.readPtr_cpu (bank : Byte) (off : Word) (s : State) : (s.readPtr bank off).2.cpu = s.cpu := rfl
@[simp] theorem State.read24At_cpu (a0 a1 a2 : Addr) (s : State) : (s.read24At a0 a1 a2).2.cpu = s.cpu := rfl

theorem State.push8_changes (nw : Bool) (v : Byte) (s : State) : s.cpu.ChangesOnly [.s] (s.push8 nw v).cpu := by
  simp [Cpu.changesOnly_iff]

theorem State.push16_changes (nw : Bool) (v : Word) (s : State) : s.cpu.ChangesOnly [.s] (s.push16 nw v).cpu := by
  simp [Cpu.changesOnly_iff]

theorem State.pushW_changes (nw : Bool) (w : Width) (v : Word) (s : State) : s.cpu.ChangesOnly [.s] (s.pushW nw w v).cpu := by
  cases w
  · exact s.push8_changes _ _
  · exact s.push16_changes _ _

theorem State.pull8_changes (nw : Bool) (s : State) : s.cpu.ChangesOnly [.s] (s.pull8 nw).2.cpu := by
  simp [Cpu.changesOnly_iff]

theorem State.pull16_changes (nw : Bool) (s : State) : s.cpu.ChangesOnly [.s] (s.pull16 nw).2.cpu := by
  simp [Cpu.changesOnly_iff]

theorem State.pullW_changes (nw : Bool) (w : Width) (s : State) : s.cpu.ChangesOnly [.s] (s.pullW nw w).2.cpu := by
  cases w
  · exact s.pull8_changes _
  · exact s.pull16_changes _

theorem State.enterException_changes (nw : Bool) (ret : Word) (image : Byte) (vector : Word) (s : State) :
    s.cpu.ChangesOnly [.s, .pb, .flagI, .flagD] (s.enterException nw ret image vector).cpu := by
  unfold State.enterException
  cases he : s.cpu.p.e <;> simp [Cpu.changesOnly_iff, he]

theorem State.returnFromException_changes (nw : Bool) (s : State) :
    s.cpu.ChangesOnly [.s, .pb, .x, .y, .flagN, .flagV, .flagM, .flagX, .flagD, .flagI, .flagZ, .flagC]
      (s.returnFromException nw).cpu := by
  unfold State.returnFromException
  cases he : s.cpu.p.e <;> simp [Cpu.changesOnly_iff, Status.forceEmulation, Status.withByte, he]

/-- In emulation mode RTI pulls no bank (R386). -/
theorem State.returnFromException_pb (nw : Bool) {s : State} (he : s.cpu.p.e = true) :
    (s.returnFromException nw).cpu.pb = s.cpu.pb := by
  unfold State.returnFromException
  simp [Status.forceEmulation, Status.withByte, he]

/-! ## The shared forms of the instructions -/

theorem State.AccessesTo.cpu_eq {s t : State} (h : s.AccessesTo t) : t.cpu = s.cpu := by
  obtain ⟨_, _, rfl, _⟩ := h; rfl

section
variable {ps : List Part} {op : Byte} {o : Operand} {w : Width} {s : State}

theorem impliedInstr_changes {f : Cpu → Cpu} (hf : s.cpu.ChangesOnly ps (f s.cpu)) :
    s.cpu.ChangesOnly ps (impliedInstr op f s).cpu := hf.withPc _

theorem readInstr_changes {g : Word → State → State} (hg : ∀ m (t : State), t.cpu.ChangesOnly ps (g m t).cpu) :
    s.cpu.ChangesOnly ps (readInstr op o w g s).cpu :=
  ((readOperand_readsTo o w s).cpu_eq ▸ hg _ _).withPc _

theorem State.addTo_changes (sub : Bool) (m : Word) :
    s.cpu.ChangesOnly [.a, .flagN, .flagV, .flagZ, .flagC] (s.addTo w sub m).cpu := by
  unfold State.addTo
  split <;> exact Cpu.storeSum_changes _ _ _

theorem storeInstr_changes {v : Word} : s.cpu.ChangesOnly [] (storeInstr op o w v s).cpu :=
  (Cpu.ChangesOnly.of_eq [] (storeOperand_accessesTo o w v s).cpu_eq).withPc _

/-- A read-modify-write may write A where its operand is the accumulator. -/
theorem rmwInstr_changes {f : Word → Word} {g : Word → Word → Cpu → Cpu} (hg : ∀ v r c, Cpu.ChangesOnly ps c (g v r c)) :
    s.cpu.ChangesOnly ([.a] ++ ps) (rmwInstr op o w f g s).cpu := by
  have operand : s.cpu.ChangesOnly [.a] (rmw o w f s).st.cpu := by
    by_cases ho : o = .accumulator
    · subst ho
      exact Cpu.setA_changes _ _ _
    · exact .of_eq [.a] (rmw_accessesTo o w f s ho).cpu_eq
  exact (operand.trans (hg _ _ _)).withPc _

theorem rmwInstr_memory_changes {f : Word → Word} {g : Word → Word → Cpu → Cpu} (ho : o ≠ .accumulator)
    (hg : ∀ v r c, Cpu.ChangesOnly ps c (g v r c)) : s.cpu.ChangesOnly ps (rmwInstr op o w f g s).cpu :=
  ((rmw_accessesTo o w f s ho).cpu_eq ▸ hg _ _ _ : s.cpu.ChangesOnly ps _).withPc _

theorem stackInstr_changes {f : Bool → State → State} (hf : ∀ nw, s.cpu.ChangesOnly ps (f nw s).cpu) :
    s.cpu.ChangesOnly (ps ++ [.s]) (stackInstr op f s).cpu :=
  ((hf _).trans (Cpu.restoreStackPage_changes _ _)).withPc _

/-- The pulls, each a value of a width and registers written from it. -/
theorem pullInstr_changes {f : Word → Cpu → Cpu} (hf : ∀ v c, Cpu.ChangesOnly ps c (f v c)) :
    s.cpu.ChangesOnly ([.s] ++ ps ++ [.s]) (stackInstr op (pullThen w f) s).cpu :=
  stackInstr_changes fun nw => (s.pullW_changes nw w).trans (hf _ _)

theorem bitOf_changes : s.cpu.ChangesOnly [.flagN, .flagV, .flagZ] (bitOf op o s).cpu := by
  unfold bitOf
  split
  · exact readInstr_changes fun m t => by simp [Cpu.changesOnly_iff]
  · exact readInstr_changes fun m t => Cpu.bitMemory_changes _ _ _

theorem blockMove_changes {dst src : Byte} {step : Word} :
    s.cpu.ChangesOnly [.a, .x, .y, .db] (blockMove op dst src step s).cpu := by
  simp [Cpu.changesOnly_iff, blockMove]

end

end Sys2Proof.Machine

namespace Sys2Proof.Claims
open Sys2Proof.Machine

/-! ## The writers of each part -/

/-- The mnemonics that write a part (R21 to R39). -/
def writers : Part → List Mnemonic
  | .a => accumulatorWriters
  | .x => [.ldx, .tax, .tyx, .tsx, .inx, .dex, .plx, .mvn, .mvp, .plp, .rti, .sep, .xce]
  | .y => [.ldy, .tay, .txy, .iny, .dey, .ply, .mvn, .mvp, .plp, .rti, .sep, .xce]
  | .s => stackWriters
  | .d => [.pld, .tcd]
  | .db => [.plb, .mvn, .mvp]
  | .pb => [.jml, .jsl, .rtl, .rti, .brk, .cop]
  | .flagN => negativeWriters
  | .flagV => overflowWriters
  | .flagM | .flagX => widthWriters
  | .flagD => decimalWriters
  | .flagI => maskWriters
  | .flagZ => zeroWriters
  | .flagC => carryWriters
  | .flagE => [.xce]

/-- Every part a mnemonic does not write is as before. -/
def KeepsUnwritten (m : Mnemonic) (s t : State) : Prop := ∀ q : Part, m ∉ writers q → q.get t.cpu = q.get s.cpu

/-- It is enough that the parts changed are among those the mnemonic writes. -/
theorem KeepsUnwritten.of_changes {m : Mnemonic} {ps : List Part} {s t : State} (h : s.cpu.ChangesOnly ps t.cpu)
    (hw : ∀ q ∈ ps, m ∈ writers q) : KeepsUnwritten m s t :=
  fun q hm => h q fun hq => hm (hw q hq)

/-- Only a mnemonic that writes A has the accumulator as its operand. -/
theorem mem_accumulatorWriters_of_operand (i : Instr) (h : i.operand = .accumulator) : i.mnemonic ∈ accumulatorWriters := by
  cases i
  case aslAcc | rolAcc | lsrAcc | rorAcc | incAcc | decAcc => decide
  all_goals cases h

/-- The mnemonics of several addressing modes. -/
theorem perform_keepsUnwritten {m : Mnemonic} {op : Byte} {o : Operand} {s t : State}
    (ho : o = .accumulator → m ∈ accumulatorWriters) (h : perform m op o s = some t) : KeepsUnwritten m s t := by
  cases m <;> cases h
  case lda | and | ora | eor => exact .of_changes (readInstr_changes fun _ _ => Cpu.loadA_changes _ _ _) (by decide)
  case ldx => exact .of_changes (readInstr_changes fun _ _ => Cpu.loadX_changes _ _ _) (by decide)
  case ldy => exact .of_changes (readInstr_changes fun _ _ => Cpu.loadY_changes _ _ _) (by decide)
  case cmp | cpx | cpy => exact .of_changes (readInstr_changes fun _ _ => Cpu.compare_changes _ _ _ _) (by decide)
  case adc | sbc => exact .of_changes (readInstr_changes fun _ _ => State.addTo_changes _ _) (by decide)
  case bit => exact .of_changes bitOf_changes (by decide)
  case sta | stx | sty | stz => exact .of_changes storeInstr_changes (by decide)
  case tsb | trb =>
    have memory : o ≠ .accumulator := fun e => absurd (ho e) (by decide)
    exact .of_changes (rmwInstr_memory_changes memory fun _ _ _ => Cpu.testZ_changes _ _ _) (by decide)
  case inc | dec => exact .of_changes (rmwInstr_changes fun _ _ _ => Cpu.setNZ_changes _ _ _) (by decide)
  case asl | lsr | rol | ror => exact .of_changes (rmwInstr_changes fun _ _ _ => Cpu.setNZC_changes _ _ _ _) (by decide)

/-- Every instruction changes only parts that list it among their writers. -/
theorem exec_keepsUnwritten (i : Instr) (s : State) : ∃ t, exec i s = .next t ∧ KeepsUnwritten i.mnemonic s t := by
  cases hp : perform i.mnemonic i.opcode i.operand s with
  | some t =>
    exact ⟨t, exec_of_perform i s t hp, perform_keepsUnwritten (mem_accumulatorWriters_of_operand i) hp⟩
  | none =>
    cases i
    all_goals dsimp only [Instr.mnemonic, Instr.opcode] at hp ⊢
    -- one flag, or none
    case clc | sec =>
      exact ⟨_, rfl, .of_changes (ps := [.flagC]) (impliedInstr_changes (by simp [Cpu.changesOnly_iff])) (by decide)⟩
    case cld | sed =>
      exact ⟨_, rfl, .of_changes (ps := [.flagD]) (impliedInstr_changes (by simp [Cpu.changesOnly_iff])) (by decide)⟩
    case cli | sei =>
      exact ⟨_, rfl, .of_changes (ps := [.flagI]) (impliedInstr_changes (by simp [Cpu.changesOnly_iff])) (by decide)⟩
    case clv =>
      exact ⟨_, rfl, .of_changes (ps := [.flagV]) (impliedInstr_changes (by simp [Cpu.changesOnly_iff])) (by decide)⟩
    case nop | wdm | wai | stp => exact ⟨_, rfl, .of_changes (impliedInstr_changes (.refl [] _)) (by decide)⟩
    -- the modes
    case rep => exact ⟨_, rfl, .of_changes (impliedInstr_changes (Cpu.resetBits_changes _ _)) (by decide)⟩
    case sep => exact ⟨_, rfl, .of_changes (impliedInstr_changes (Cpu.setBits_changes _ _)) (by decide)⟩
    case xce => exact ⟨_, rfl, .of_changes (impliedInstr_changes (Cpu.exchange_changes _)) (by decide)⟩
    -- transfers and counts
    case txa | tya => exact ⟨_, rfl, .of_changes (impliedInstr_changes (Cpu.loadA_changes _ _ _)) (by decide)⟩
    case tax | tyx | tsx | inx | dex =>
      exact ⟨_, rfl, .of_changes (impliedInstr_changes (Cpu.loadX_changes _ _ _)) (by decide)⟩
    case tay | txy | iny | dey =>
      exact ⟨_, rfl, .of_changes (impliedInstr_changes (Cpu.loadY_changes _ _ _)) (by decide)⟩
    case txs | tcs => exact ⟨_, rfl, .of_changes (impliedInstr_changes (Cpu.setS_changes _ _)) (by decide)⟩
    case tsc | tdc | xba =>
      exact ⟨_, rfl, .of_changes (ps := [.a, .flagN, .flagZ]) (impliedInstr_changes (by simp [Cpu.changesOnly_iff]))
        (by decide)⟩
    case tcd =>
      exact ⟨_, rfl, .of_changes (ps := [.d, .flagN, .flagZ]) (impliedInstr_changes (by simp [Cpu.changesOnly_iff]))
        (by decide)⟩
    -- branches and jumps
    case bcc | bcs | beq | bne | bmi | bpl | bvc | bvs | bra | brl | jmpAbs | jmpAbsInd | jmpAbsIndX =>
      exact ⟨_, rfl, .of_changes ((Cpu.ChangesOnly.refl [] s.cpu).withPc _) (by decide)⟩
    case jmlLong | jmlAbsIndLong =>
      exact ⟨_, rfl, .of_changes (ps := [.pb]) (by simp [Cpu.changesOnly_iff]) (by decide)⟩
    -- calls and returns
    case jsrAbs | jsrAbsIndX =>
      exact ⟨_, rfl, .of_changes (((s.push16_changes _ _).trans (Cpu.restoreStackPage_changes _ _)).withPc _) (by decide)⟩
    case rts =>
      exact ⟨_, rfl, .of_changes (((s.pull16_changes _).trans (Cpu.restoreStackPage_changes _ _)).withPc _) (by decide)⟩
    case jsl | rtl =>
      exact ⟨_, rfl, .of_changes (ps := [.s, .pb]) (by simp [Cpu.changesOnly_iff]) (by decide)⟩
    -- the stack
    case pha | phx | phy => exact ⟨_, rfl, .of_changes (stackInstr_changes fun nw => s.pushW_changes nw _ _) (by decide)⟩
    case php | phb | phk => exact ⟨_, rfl, .of_changes (stackInstr_changes fun nw => s.push8_changes nw _) (by decide)⟩
    case phd | pea | per => exact ⟨_, rfl, .of_changes (stackInstr_changes fun nw => s.push16_changes nw _) (by decide)⟩
    case pei dp =>
      have pointer : (peiWord dp s).2.cpu = s.cpu := (s.read16At_readsTo _ _).cpu_eq
      exact ⟨_, rfl, .of_changes (stackInstr_changes fun nw =>
        (Cpu.ChangesOnly.of_eq [] pointer).trans (State.push16_changes nw _ _)) (by decide)⟩
    case pla => exact ⟨_, rfl, .of_changes (pullInstr_changes fun _ _ => Cpu.loadA_changes _ _ _) (by decide)⟩
    case plx => exact ⟨_, rfl, .of_changes (pullInstr_changes fun _ _ => Cpu.loadX_changes _ _ _) (by decide)⟩
    case ply => exact ⟨_, rfl, .of_changes (pullInstr_changes fun _ _ => Cpu.loadY_changes _ _ _) (by decide)⟩
    case plb =>
      exact ⟨_, rfl, .of_changes (pullInstr_changes (ps := [.db, .flagN, .flagZ]) fun _ _ => by simp [Cpu.changesOnly_iff])
        (by decide)⟩
    case pld =>
      exact ⟨_, rfl, .of_changes (pullInstr_changes (ps := [.d, .flagN, .flagZ]) fun _ _ => by simp [Cpu.changesOnly_iff])
        (by decide)⟩
    case plp => exact ⟨_, rfl, .of_changes (pullInstr_changes fun _ _ => Cpu.pullStatus_changes _ _) (by decide)⟩
    -- exceptions and block moves
    case brk | cop => exact ⟨_, rfl, .of_changes (s.enterException_changes _ _ _ _) (by decide)⟩
    case rti => exact ⟨_, rfl, .of_changes (s.returnFromException_changes _) (by decide)⟩
    case mvn | mvp => exact ⟨_, rfl, .of_changes blockMove_changes (by decide)⟩
    -- the mnemonics of several addressing modes are not among these
    all_goals cases hp

/-! ## The settled statements -/

theorem eq_xce_of_mnemonic (i : Instr) (h : i.mnemonic = .xce) : i = .xce := by
  cases i
  case xce => rfl
  all_goals
    dsimp only [Instr.mnemonic, Instr.opcode] at h
    cases h

theorem eq_rti_of_mnemonic (i : Instr) (h : i.mnemonic = .rti) : i = .rti := by
  cases i
  case rti => rfl
  all_goals
    dsimp only [Instr.mnemonic, Instr.opcode] at h
    cases h

/-- E after an instruction: XCE gives it the old C, every other one keeps it (R41). -/
theorem exec_e (i : Instr) (s : State) : ∃ t, exec i s = .next t ∧ t.cpu.p.e = if i = .xce then s.cpu.p.c else s.cpu.p.e := by
  by_cases hi : i = .xce
  · subst hi
    exact ⟨_, rfl, s.cpu.exchange_e⟩
  · obtain ⟨t, ht, keeps⟩ := exec_keepsUnwritten i s
    have other : i.mnemonic ∉ writers .flagE := fun h => hi (eq_xce_of_mnemonic i (List.mem_singleton.mp h))
    exact ⟨t, ht, (keeps .flagE other).trans (if_neg hi).symm⟩

/-- Settles O47: the flags are parts, and each flag's list is that of its writers. -/
theorem flagWriters : Obligations.FlagWriters := by
  refine ⟨fun i s => ?_, exec_e, fun _ _ => rfl⟩
  obtain ⟨t, ht, keeps⟩ := exec_keepsUnwritten i s
  exact ⟨t, ht, keeps .flagC, keeps .flagZ, keeps .flagN, keeps .flagV, keeps .flagI, keeps .flagD,
    fun h => ⟨keeps .flagM h, keeps .flagX h⟩⟩

/-- Settles O48: the registers are parts, and RTI pulls PB in native mode only. -/
theorem registerWriters : Obligations.RegisterWriters := by
  refine ⟨fun i s => ?_, fun i s => ?_⟩
  · obtain ⟨t, ht, keeps⟩ := exec_keepsUnwritten i s
    refine ⟨t, ht, keeps .pb, fun hi he => ?_, keeps .db, keeps .d⟩
    obtain rfl := eq_rti_of_mnemonic i hi
    cases ht
    exact State.returnFromException_pb _ he
  · obtain ⟨t, ht, keeps⟩ := exec_keepsUnwritten i s
    exact ⟨t, ht, keeps .a, keeps .x, keeps .y, keeps .s⟩

end Sys2Proof.Claims
end

section
/-! PROOFS. The address decoder and the bank translation, by the numbers of bank and offset (R68, R69, R100 to R111). -/

namespace Sys2Proof.Machine

/-! ## Addresses as numbers -/

theorem toNat_bankOf (a : Addr) : (bankOf a).toNat = a.toNat / 65536 := by
  rw [bankOf, BitVec.toNat_setWidth, BitVec.toNat_ushiftRight, Nat.shiftRight_eq_div_pow]
  omega

theorem toNat_offsetOf (a : Addr) : (offsetOf a).toNat = a.toNat % 65536 := BitVec.toNat_setWidth 16 a

theorem ioBank_iff (b : Nat) : ioBank b = true ↔ b < 0x40 ∨ (0x80 ≤ b ∧ b < 0xC0) := by
  simp [ioBank, Nat.lt_succ_iff]

/-! ## The decoder -/

theorem ioTarget_eq (o : Nat) :
    ioTarget o =
      if o < 0x2000 then .wramA
      else if o < 0x2100 then .unmapped
      else if o < 0x2140 then .ext .ppu
      else if o < 0x2180 then .ext .apu
      else if o < 0x2184 then .wramPort
      else if o < 0x2200 then .ext .expansion
      else if o < 0x4000 then .cart
      else if o < 0x4300 then .ext .onChipIo
      else if o < 0x6000 then .ext .dma
      else .cart := by
  simp only [ioTarget, ← Nat.lt_add_one_iff, Nat.reduceAdd]

/-- Outside the banks whose offsets are split, 7E and 7F are WRAM and all others the cartridge: no bank is left over (R69). -/
theorem getTarget_eq (a : Addr) :
    getTarget a =
      if a.toNat / 65536 < 0x40 ∨ (0x80 ≤ a.toNat / 65536 ∧ a.toNat / 65536 < 0xC0) then ioTarget (a.toNat % 65536)
      else if a.toNat / 65536 = 0x7E ∨ a.toNat / 65536 = 0x7F then .wramA
      else .cart := by
  have bank : a.toNat / 65536 < 0x100 := by omega
  simp only [getTarget, toNat_bankOf, toNat_offsetOf, ioBank_iff]
  generalize a.toNat / 65536 = b at bank
  split
  · rfl
  · by_cases wram : b = 0x7E ∨ b = 0x7F
    · rw [if_neg (by omega), if_pos (by omega), if_pos wram]
    · rw [if_pos (by omega), if_neg wram]

/-- The decoder sends WorkRam no bank but its own (R73). -/
theorem bank_of_getTarget_wramA {a : Addr} (h : getTarget a = .wramA) :
    (a.toNat / 65536 < 0x40 ∨ (0x80 ≤ a.toNat / 65536 ∧ a.toNat / 65536 < 0xC0)) ∨
      a.toNat / 65536 = 0x7E ∨ a.toNat / 65536 = 0x7F := by
  rw [getTarget_eq] at h
  split at h
  · exact .inl ‹_›
  · split at h
    · exact .inr ‹_›
    · cases h

/-- Only the four ports are sent to Bus B (R73). -/
theorem offset_of_getTarget_wramPort {a : Addr} (h : getTarget a = .wramPort) :
    0x2180 ≤ a.toNat % 65536 ∧ a.toNat % 65536 ≤ 0x2183 := by
  rw [getTarget_eq] at h
  split at h
  · rw [ioTarget_eq] at h
    split_ifs at h
    omega
  · split at h <;> cases h

/-- Banks 7E and 7F never reach the cartridge (R69). -/
theorem bank_of_getTarget_cart {a : Addr} (h : getTarget a = .cart) :
    (a.toNat / 65536 < 0x40 ∨ (0x80 ≤ a.toNat / 65536 ∧ a.toNat / 65536 < 0xC0)) ∨
      a.toNat / 65536 ≠ 0x7E ∧ a.toNat / 65536 ≠ 0x7F := by
  rw [getTarget_eq] at h
  split at h
  · exact .inl ‹_›
  · split at h
    · cases h
    · exact .inr (not_or.mp ‹_›)

/-! ## The translation -/

theorem convertToLocalAddr_true (a : Addr) : convertToLocalAddr true a = loRomLocal (a.toNat / 65536) (a.toNat % 65536) := by
  simp only [convertToLocalAddr, if_true, toNat_bankOf, toNat_offsetOf]

theorem convertToLocalAddr_false (a : Addr) : convertToLocalAddr false a = hiRomLocal (a.toNat / 65536) (a.toNat % 65536) := by
  simp only [convertToLocalAddr, Bool.false_eq_true, if_false, toNat_bankOf, toNat_offsetOf]

/-- LoROM on the addresses the MMU sends to the cartridge (R101 to R107). -/
theorem loRomLocal_eq {b o : Nat} (hb : b < 0x100)
    (cart : (b < 0x40 ∨ (0x80 ≤ b ∧ b < 0xC0)) ∨ b ≠ 0x7E ∧ b ≠ 0x7F) :
    loRomLocal b o =
      if b < 0x40 ∨ (0x80 ≤ b ∧ b < 0xC0) then
        if o < 0x8000 then (.unmapped, 0) else (.rom, b % 64 * 0x8000 + (o - 0x8000))
      else if b < 0x70 ∨ (0xC0 ≤ b ∧ b < 0xF0) then (.rom, 0x200000 + b % 64 * 0x8000 + o)
      else if b < 0x7E then if o < 0x8000 then (.mode20Sram1, (b - 0x70) * 0x8000 + o)
        else (.rom, 0x380000 + (b - 0x70) * 0x8000 + (o - 0x8000))
      else if b < 0xFE then if o < 0x8000 then (.mode20Sram1, (b - 0xF0) * 0x8000 + o)
        else (.rom, 0x380000 + (b - 0xF0) * 0x8000 + (o - 0x8000))
      else if o < 0x8000 then (.mode20Sram2, (b - 0xFE) * 0x8000 + o)
      else (.rom, 0x3F0000 + (b - 0xFE) * 0x8000 + (o - 0x8000)) := by
  have range : (b < 0x40 ∨ (0x80 ≤ b ∧ b < 0xC0)) ∨ (0x40 ≤ b ∧ b < 0x70 ∨ 0xC0 ≤ b ∧ b < 0xF0) ∨ (0x70 ≤ b ∧ b < 0x7E) ∨
      (0xF0 ≤ b ∧ b < 0xFE) ∨ 0xFE ≤ b := by omega
  rcases range with h | h | h | h | h <;> rcases Nat.lt_or_ge o 0x8000 with half | half <;>
    simp (disch := omega) only [loRomLocal, ioBank_iff, if_pos, if_neg]

/-- HiROM on the same addresses (R108 to R111). -/
theorem hiRomLocal_eq {b o : Nat} (cart : (b < 0x40 ∨ (0x80 ≤ b ∧ b < 0xC0)) ∨ b ≠ 0x7E ∧ b ≠ 0x7F) :
    hiRomLocal b o =
      if b < 0x40 ∨ (0x80 ≤ b ∧ b < 0xC0) then
        if 0x8000 ≤ o then (.rom, b % 64 * 0x10000 + o)
        else if 32 ≤ b % 64 ∧ 0x6000 ≤ o then (.mode21Sram, b % 32 * 0x2000 + (o - 0x6000))
        else (.unmapped, 0)
      else (.rom, b % 64 * 0x10000 + o) := by
  by_cases io : b < 0x40 ∨ (0x80 ≤ b ∧ b < 0xC0)
  · by_cases upper : 0x8000 ≤ o
    · simp only [hiRomLocal, ioBank_iff, if_pos io, if_pos upper]
    · have window : ((0x20 ≤ b ∧ b ≤ 0x3F) ∨ (0xA0 ≤ b ∧ b ≤ 0xBF)) ∧ 0x6000 ≤ o ∧ o ≤ 0x7FFF ↔ 32 ≤ b % 64 ∧ 0x6000 ≤ o := by
        omega
      simp only [hiRomLocal, ioBank_iff, if_pos io, if_neg upper, window]
  · have bank : (0x40 ≤ b ∧ b ≤ 0x7D) ∨ 0xC0 ≤ b := by omega
    simp only [hiRomLocal, ioBank_iff, if_neg io, if_pos bank]

end Sys2Proof.Machine

namespace Sys2Proof.Claims
open Sys2Proof.Machine

/-- Settles O4: the decoder by bank, and in the split banks by offset. -/
theorem addressDecoder : Obligations.AddressDecoder := by
  intro a b o
  rw [getTarget_eq, ioTarget_eq]

/-- Settles O12: each mapping by bank and half, on the banks the decoder sends to the cartridge. -/
theorem bankTranslation : Obligations.BankTranslation :=
  ⟨fun a h => (convertToLocalAddr_true a).trans (loRomLocal_eq (by omega) (bank_of_getTarget_cart h)),
    fun a h => (convertToLocalAddr_false a).trans (hiRomLocal_eq (bank_of_getTarget_cart h))⟩

end Sys2Proof.Claims
end

section
/-! PROOFS. The device contract with buffers (R63, R70 to R72, R80 to R88): where a call stops, what it can change, and that a
buffer of one byte is the one-byte access. -/

namespace Sys2Proof.Machine

/-! ## Where a call stops -/

section
variable {α : Type} {n : Nat} {x : α} {call : Host.Outcome α Fault Refusal}

@[simp] theorem withBuffer_zero : withBuffer 0 call = .fault .emptyBuffer := rfl

theorem withBuffer_of_pos (h : 0 < n) : withBuffer n call = call := if_neg (by omega)

theorem of_withBuffer_eq_next (h : withBuffer n call = .next x) : call = .next x := by
  unfold withBuffer at h
  split at h
  · cases h
  · exact h

theorem withinTransfer_of_le (h : n ≤ 4) : withinTransfer n call = call := if_neg (by omega)

theorem withinTransfer_of_lt (h : 4 < n) : withinTransfer n call = .refused .bufferTooLong := if_pos h

theorem of_withinTransfer_eq_next (h : withinTransfer n call = .next x) : call = .next x := by
  unfold withinTransfer at h
  split at h
  · cases h
  · exact h

end

/-- A port outside the four, as the model tests it (R82). -/
theorem port_illegal_iff (port : Word) : port < 0x2180 ∨ 0x2183 < port ↔ port.toNat < 0x2180 ∨ 0x2183 < port.toNat := Iff.rfl

theorem workRamReadB_of_illegal {r nd : Bool} {port : Word} {n : Nat} {b : Bus} (hn : 0 < n)
    (h : port.toNat < 0x2180 ∨ 0x2183 < port.toNat) : workRamReadB r nd port n b = .fault .outOfRange := by
  rw [workRamReadB, withBuffer_of_pos hn, if_pos ((port_illegal_iff port).mpr h)]

theorem workRamReadB_of_long {r nd : Bool} {port : Word} {n : Nat} {b : Bus} (hn : 1 < n) (lo : 0x2180 ≤ port.toNat)
    (hi : port.toNat ≤ 0x2183) : workRamReadB r nd port n b = .refused .multiBytePortAccess := by
  rw [workRamReadB, withBuffer_of_pos (by omega), if_neg (by rw [port_illegal_iff]; omega), if_pos (by omega)]

/-- At a legal port a buffer of one byte is the port's own read. -/
theorem workRamReadB_one {r nd : Bool} {port : Word} {b : Bus} (lo : 0x2180 ≤ port.toNat) (hi : port.toNat ≤ 0x2183) :
    workRamReadB r nd port 1 b = .next ((b.portRead r nd port).1.map fun v => [v], (b.portRead r nd port).2) := by
  rw [workRamReadB, withBuffer_of_pos Nat.one_pos, if_neg (by rw [port_illegal_iff]; omega), if_neg (by omega)]

theorem workRamWriteB_of_illegal {port : Word} {buf : List Byte} {b : Bus} (hb : buf ≠ [])
    (h : port.toNat < 0x2180 ∨ 0x2183 < port.toNat) : workRamWriteB port buf b = .fault .outOfRange := by
  unfold workRamWriteB
  rw [withBuffer_of_pos (List.length_pos_iff.mpr hb), if_pos ((port_illegal_iff port).mpr h)]

theorem workRamWriteB_of_long {port : Word} {buf : List Byte} {b : Bus} (hb : 1 < buf.length) (lo : 0x2180 ≤ port.toNat)
    (hi : port.toNat ≤ 0x2183) : workRamWriteB port buf b = .refused .multiBytePortAccess := by
  unfold workRamWriteB
  rw [withBuffer_of_pos (by omega), if_neg (by rw [port_illegal_iff]; omega)]
  match buf, hb with
  | _ :: _ :: _, _ => rfl

theorem workRamWriteB_one {port : Word} {v : Byte} {b : Bus} (lo : 0x2180 ≤ port.toNat) (hi : port.toNat ≤ 0x2183) :
    workRamWriteB port [v] b = .next (true, b.portWrite port v) := by
  rw [workRamWriteB, withBuffer_of_pos (by simp), if_neg (by rw [port_illegal_iff]; omega)]

theorem mmuRead_of_long {r nd : Bool} {a : Addr} {n : Nat} {b : Bus} (hn : 4 < n) :
    mmuRead r nd a n b = .refused .bufferTooLong := withinTransfer_of_lt hn

theorem mmuWrite_of_long {a : Addr} {buf : List Byte} {b : Bus} (hb : 4 < buf.length) :
    mmuWrite a buf b = .refused .bufferTooLong := withinTransfer_of_lt hb

/-! ## What a buffered read can change -/

theorem workRamReadA_bus {a : Addr} {n : Nat} {b d : Bus} {x : Option (List Byte)} (h : workRamReadA a n b = .next (x, d)) :
    d = b := by
  have h := of_withBuffer_eq_next h
  split at h
  · cases h
  · split at h
    · cases h
    · cases h
      rfl

theorem workRamReadB_bus {r nd : Bool} {port : Word} {n : Nat} {b d : Bus} {x : Option (List Byte)}
    (h : workRamReadB r nd port n b = .next (x, d)) : d = (b.portRead r nd port).2 := by
  have h := of_withBuffer_eq_next h
  split at h
  · cases h
  · split at h
    · cases h
    · cases h
      rfl

/-- A device's buffered read changes WmAddr and the external history at most, as its one-byte read does. -/
theorem Bus.deviceReadN_eq {r nd : Bool} {a : Addr} {n : Nat} {b d : Bus} {x : Option (List Byte)}
    (h : b.deviceReadN r nd a n = .next (x, d)) : ∃ w k, d = { b with wmAddr := w, extCount := k } := by
  have h := of_withBuffer_eq_next h
  split at h
  · exact ⟨_, _, workRamReadA_bus h⟩
  · obtain ⟨w, hw⟩ := Bus.portRead_eq r nd (offsetOf a) b
    exact ⟨w, _, (workRamReadB_bus h).trans hw⟩
  all_goals
    cases h
    exact ⟨_, _, rfl⟩

theorem Bus.deviceReadN_latch {r nd : Bool} {a : Addr} {n : Nat} {b d : Bus} {x : Option (List Byte)}
    (h : b.deviceReadN r nd a n = .next (x, d)) : d.latch = b.latch := by
  obtain ⟨_, _, rfl⟩ := Bus.deviceReadN_eq h
  rfl

/-- A serviced read answers the device's bytes and keeps the last one in the latch (R70). -/
theorem mmuRead_of_serviced {r nd : Bool} {a : Addr} {n : Nat} {b d : Bus} {l : List Byte} (hn : n ≤ 4)
    (h : b.deviceReadN r nd a n = .next (some l, d)) :
    mmuRead r nd a n b = .next (true, l, { d with latch := l.getLastD b.latch }) := by
  rw [mmuRead, withinTransfer_of_le hn, h, ← Bus.deviceReadN_latch h]

/-- One that is not serviced answers the latch (R70). -/
theorem mmuRead_of_openBus {r nd : Bool} {a : Addr} {n : Nat} {b d : Bus} (hn : n ≤ 4)
    (h : b.deviceReadN r nd a n = .next (none, d)) : mmuRead r nd a n b = .next (false, List.replicate n b.latch, d) := by
  rw [mmuRead, withinTransfer_of_le hn, h, ← Bus.deviceReadN_latch h]

/-! ## No buffered write moves the latch -/

@[simp] theorem Bus.portWrite_latch (port : Word) (v : Byte) (b : Bus) : (b.portWrite port v).latch = b.latch := by
  unfold Bus.portWrite
  split_ifs
  · exact b.setCell_latch _ _
  all_goals rfl

@[simp] theorem workRamWriteFrom_latch (l : Nat) (buf : List Byte) (b : Bus) : (workRamWriteFrom l buf b).latch = b.latch := by
  induction buf generalizing l b with
  | nil => rfl
  | cons v rest ih => exact (ih _ _).trans (b.setCell_latch _ _)

@[simp] theorem cartWriteN_latch (a : Addr) (buf : List Byte) (b : Bus) : (cartWriteN a buf b).2.latch = b.latch := by
  induction buf generalizing a b with
  | nil => rfl
  | cons v rest ih =>
    unfold cartWriteN
    split
    · exact (ih _ _).trans (b.setCell_latch _ _)
    · exact ih _ _

theorem workRamWriteA_latch {a : Addr} {buf : List Byte} {b d : Bus} {ok : Bool} (h : workRamWriteA a buf b = .next (ok, d)) :
    d.latch = b.latch := by
  have h := of_withBuffer_eq_next h
  split at h
  · cases h
  · split at h
    · cases h
    · cases h
      exact workRamWriteFrom_latch _ _ _

theorem workRamWriteB_latch {port : Word} {buf : List Byte} {b d : Bus} {ok : Bool}
    (h : workRamWriteB port buf b = .next (ok, d)) : d.latch = b.latch := by
  have h := of_withBuffer_eq_next h
  split at h
  · cases h
  · split at h
    · cases h
      exact Bus.portWrite_latch _ _ _
    · cases h

theorem mmuWrite_latch {a : Addr} {buf : List Byte} {b d : Bus} {ok : Bool} (h : mmuWrite a buf b = .next (ok, d)) :
    d.latch = b.latch := by
  have h := of_withBuffer_eq_next (of_withinTransfer_eq_next h)
  split at h
  · exact workRamWriteA_latch h
  · exact workRamWriteB_latch h
  · have written := congrArg Prod.snd (Host.Outcome.next.inj h)
    exact (congrArg Bus.latch written).symm.trans (cartWriteN_latch a buf b)
  all_goals
    cases h
    rfl

/-! ## A buffer of one byte -/

/-- The Bus A local address, by bank (R80). -/
theorem busALocal_eq (a : Addr) :
    busALocal a =
      if a.toNat / 65536 < 0x40 ∨ (0x80 ≤ a.toNat / 65536 ∧ a.toNat / 65536 < 0xC0) then some (a.toNat % 0x2000)
      else if a.toNat / 65536 = 0x7E ∨ a.toNat / 65536 = 0x7F then some (a.toNat % 0x20000)
      else none := by
  have linear : 0x7E ≤ a.toNat / 65536 ∧ a.toNat / 65536 ≤ 0x7F ↔ a.toNat / 65536 = 0x7E ∨ a.toNat / 65536 = 0x7F := by omega
  simp only [busALocal, toNat_bankOf, ioBank_iff, linear]

/-- Every address the decoder sends to WorkRam has a local address (R73). -/
theorem busALocal_of_getTarget {a : Addr} (h : getTarget a = .wramA) : ∃ l, busALocal a = some l ∧ l < 0x20000 := by
  obtain ⟨l, hl⟩ : ∃ l, busALocal a = some l := by
    rw [busALocal_eq]
    rcases bank_of_getTarget_wramA h with io | linear
    · exact ⟨_, if_pos io⟩
    · rw [if_neg (by omega), if_pos linear]
      exact ⟨_, rfl⟩
  exact ⟨l, hl, busALocal_lt a l hl⟩

/-- A device's read into a buffer of one byte is its one-byte read (R64). -/
theorem Bus.deviceReadN_one (r nd : Bool) (a : Addr) (b : Bus) :
    b.deviceReadN r nd a 1 = .next ((b.deviceRead r nd a).1.map fun v => [v], (b.deviceRead r nd a).2) := by
  rw [Bus.deviceReadN, withBuffer_of_pos Nat.one_pos, Bus.deviceRead]
  cases h : getTarget a with
  | wramA =>
    obtain ⟨l, hl, bound⟩ := busALocal_of_getTarget h
    dsimp only
    rw [workRamReadA, withBuffer_of_pos Nat.one_pos, hl]
    dsimp only
    rw [if_neg (by omega)]
    rfl
  | wramPort =>
    obtain ⟨lo, hi⟩ := offset_of_getTarget_wramPort h
    rw [← toNat_offsetOf] at lo hi
    exact workRamReadB_one lo hi
  | cart =>
    have first : a + BitVec.ofNat 24 0 = a := BitVec.add_zero a
    simp only [cartReadN, List.range_one, List.mapM_cons, List.mapM_nil, first]
    cases b.cartCell a <;> rfl
  | ext dev =>
    dsimp only
    cases Config.extRead b.extCount dev a nd 1 with
    | none => rfl
    | some v =>
      match v with
      | ⟨⟨[_]⟩, _⟩ => rfl
  | unmapped => rfl

/-- A device's write of a buffer of one byte is its one-byte write (R65). -/
theorem Bus.deviceWriteN_one (a : Addr) (v : Byte) (b : Bus) : b.deviceWriteN a [v] = .next (b.deviceWrite a v) := by
  rw [Bus.deviceWriteN, withBuffer_of_pos (by simp), Bus.deviceWrite]
  cases h : getTarget a with
  | wramA =>
    obtain ⟨l, hl, bound⟩ := busALocal_of_getTarget h
    dsimp only
    rw [workRamWriteA, withBuffer_of_pos (by simp), hl]
    dsimp only
    rw [if_neg (by simp; omega), workRamWriteFrom, workRamWriteFrom]
  | wramPort =>
    obtain ⟨lo, hi⟩ := offset_of_getTarget_wramPort h
    rw [← toNat_offsetOf] at lo hi
    exact workRamWriteB_one lo hi
  | cart =>
    cases hc : b.cartCell a <;> simp only [cartWriteN, hc, Bool.and_true]
  | ext dev => rfl
  | unmapped => rfl

theorem mmuRead_one (r nd : Bool) (a : Addr) (b : Bus) :
    ∃ ok, mmuRead r nd a 1 b = .next (ok, [(b.read r nd a).1], (b.read r nd a).2) := by
  have device := b.deviceReadN_one r nd a
  have latch := Bus.deviceReadN_latch device
  rw [Bus.read]
  rcases hd : b.deviceRead r nd a with ⟨v, d⟩
  rw [hd] at device latch
  cases v with
  | some v => exact ⟨true, mmuRead_of_serviced (by omega) device⟩
  | none => exact ⟨false, latch ▸ mmuRead_of_openBus (by omega) device⟩

theorem mmuWrite_one (a : Addr) (v : Byte) (b : Bus) : ∃ ok, mmuWrite a [v] b = .next (ok, b.write a v) :=
  ⟨_, (withinTransfer_of_le (by simp)).trans (b.deviceWriteN_one a v)⟩

theorem State.debugPeek_one (a : Addr) (s : State) :
    ∃ ok, s.debugPeek a 1 = .next (ok, [(s.bus.read s.params.wmaddReadable true a).1]) := by
  obtain ⟨ok, h⟩ := mmuRead_one s.params.wmaddReadable true a s.bus
  exact ⟨ok, by rw [State.debugPeek, h]⟩

end Sys2Proof.Machine

namespace Sys2Proof.Claims
open Sys2Proof.Machine

/-- Settles O11: each call tests its buffer first, then the port. -/
theorem deviceContractStops : Obligations.DeviceContractStops :=
  fun _ _ _ _ _ _ _ => ⟨rfl, rfl, rfl, rfl, rfl, rfl, rfl, rfl,
    fun h => ⟨(workRamReadB_of_illegal · h), (workRamWriteB_of_illegal · h)⟩,
    fun lo hi => ⟨(workRamReadB_of_long · lo hi), (workRamWriteB_of_long · lo hi)⟩, mmuRead_of_long, mmuWrite_of_long⟩

/-- Settles O5: no device moves the latch itself. -/
theorem openBusLatch : Obligations.OpenBusLatch :=
  fun _ _ _ _ _ _ hn => ⟨fun _ _ => mmuRead_of_serviced hn,
    fun _ h => ⟨mmuRead_of_openBus hn h, Bus.deviceReadN_latch h⟩, fun _ _ _ => mmuWrite_latch⟩

/-- Settles O6: each device's access with a buffer of one byte is its one-byte access. -/
theorem oneByteBuffersAgree : Obligations.OneByteBuffersAgree :=
  ⟨fun r nd a v b => ⟨mmuRead_one r nd a b, mmuWrite_one a v b⟩, State.debugPeek_one⟩

end Sys2Proof.Claims
end

section
/-! PROOFS. Reads and writes of memory cells through the bus, and the WorkRam over its two paths (R71, R80 to R87, R116). -/

namespace Sys2Proof.Machine

/-! ## What a one-byte read moves -/

/-- `WmAddr` plus one, modulo 2^17 (R83). -/
theorem ofNat_toNat_add_one (w : BitVec 17) : BitVec.ofNat 17 (w.toNat + 1) = w + 1 := by
  rw [BitVec.ofNat_add, BitVec.ofNat_toNat, BitVec.setWidth_eq]
  rfl

/-- Only WMDATA, read destructively, moves `WmAddr` (R84, R87). -/
theorem Bus.portRead_wmAddr (r nd : Bool) (port : Word) (b : Bus) :
    (b.portRead r nd port).2.wmAddr = if port = 0x2180 ∧ nd = false then b.wmAddr + 1 else b.wmAddr := by
  unfold Bus.portRead
  by_cases data : port = 0x2180
  · rw [if_pos data]
    cases nd <;> simp [data]
  · rw [if_neg data, if_neg fun h : port = 0x2180 ∧ nd = false => data h.1]
    split_ifs <;> rfl

theorem Bus.deviceRead_wmAddr (r nd : Bool) (a : Addr) (b : Bus) :
    (b.deviceRead r nd a).2.wmAddr =
      if getTarget a = .wramPort ∧ offsetOf a = 0x2180 ∧ nd = false then b.wmAddr + 1 else b.wmAddr := by
  unfold Bus.deviceRead
  cases h : getTarget a
  case wramPort => simpa using b.portRead_wmAddr r nd (offsetOf a)
  all_goals simp

theorem Bus.read_wmAddr (r nd : Bool) (a : Addr) (b : Bus) :
    (b.read r nd a).2.wmAddr =
      if getTarget a = .wramPort ∧ offsetOf a = 0x2180 ∧ nd = false then b.wmAddr + 1 else b.wmAddr := by
  rw [← b.deviceRead_wmAddr r]
  unfold Bus.read
  rcases b.deviceRead r nd a with ⟨v, d⟩
  cases v <;> rfl

/-- ROM is no cell a store writes (R113). -/
theorem Bus.storeCell_ne_rom {b : Bus} {a : Addr} {c : CellId} (h : b.storeCell a = some c) : c.1 ≠ .rom := by
  obtain ⟨k, _, hk⟩ := Option.bind_eq_some_iff.mp h
  split at hk
  · cases hk
  · cases hk
    assumption

/-! ## Bus A -/

theorem workRamReadA_eq {a : Addr} {l n : Nat} (b : Bus) (h : busALocal a = some l) (hn : 0 < n) :
    workRamReadA a n b =
      if 0x20000 < l + n then .fault .outOfRange
      else .next (some ((List.range n).map fun k => b.cellByte (.wram, l + k)), b) := by
  have last : 0x1FFFF < l + n - 1 ↔ 0x20000 < l + n := by omega
  simp only [workRamReadA, withBuffer_of_pos hn, h, last]

theorem workRamWriteA_eq {a : Addr} {l : Nat} {buf : List Byte} (b : Bus) (h : busALocal a = some l) (hb : buf ≠ []) :
    workRamWriteA a buf b =
      if 0x20000 < l + buf.length then .fault .outOfRange else .next (true, workRamWriteFrom l buf b) := by
  have pos := List.length_pos_iff.mpr hb
  have last : 0x1FFFF < l + buf.length - 1 ↔ 0x20000 < l + buf.length := by omega
  simp only [workRamWriteA, withBuffer_of_pos pos, h, last]

@[simp] theorem workRamWriteFrom_wmAddr (l : Nat) (buf : List Byte) (b : Bus) :
    (workRamWriteFrom l buf b).wmAddr = b.wmAddr := by
  induction buf generalizing l b with
  | nil => rfl
  | cons v rest ih => exact (ih _ _).trans (b.setCell_wmAddr _ _)

/-- A buffered WRAM write leaves every cell outside its range alone. -/
theorem workRamWriteFrom_cellByte_other {l : Nat} {buf : List Byte} (b : Bus) {c : CellId}
    (h : ∀ k, k < buf.length → c ≠ (.wram, l + k)) : (workRamWriteFrom l buf b).cellByte c = b.cellByte c := by
  induction buf generalizing l b with
  | nil => rfl
  | cons v rest ih =>
    have later : ∀ k, k < rest.length → c ≠ (.wram, l + 1 + k) := fun k hk => by
      rw [Nat.add_assoc, Nat.add_comm 1 k]
      exact h (k + 1) (Nat.succ_lt_succ hk)
    exact (ih _ later).trans (b.cellByte_setCell_other _ c v (h 0 (Nat.succ_pos _)))

/-- In canonical memories each byte of the buffer is stored at its own place: no later one overwrites it (R81). -/
theorem workRamWriteFrom_cellByte {l : Nat} {buf : List Byte} {b : Bus} (hw : b.wf = true) (fits : l + buf.length ≤ 0x20000)
    {k : Nat} (hk : k < buf.length) : (workRamWriteFrom l buf b).cellByte (.wram, l + k) = buf.getD k 0 := by
  induction buf generalizing l b k with
  | nil => exact absurd hk (Nat.not_lt_zero k)
  | cons v rest ih =>
    rw [List.length_cons] at fits hk
    rw [workRamWriteFrom]
    cases k with
    | zero =>
      have later : ∀ j, j < rest.length → ((.wram, l) : CellId) ≠ (.wram, l + 1 + j) := fun j _ e => by
        have := congrArg Prod.snd e
        omega
      exact (workRamWriteFrom_cellByte_other _ later).trans (b.cellByte_setCell_same (.wram, l) v hw Region.noConfusion)
    | succ k =>
      have stored := ih (b.wf_setCell (.wram, l) v (show l < 0x20000 by omega) hw) (l := l + 1) (k := k) (by omega) (by omega)
      rwa [Nat.add_assoc, Nat.add_comm 1 k] at stored

/-- A Bus A write in canonical memories, that fits (R81). -/
theorem workRamWriteA_stores {a : Addr} {l : Nat} {buf : List Byte} {b : Bus} (h : busALocal a = some l) (hb : buf ≠ [])
    (fits : l + buf.length ≤ 0x20000) (hw : b.wf = true) :
    ∃ d, workRamWriteA a buf b = .next (true, d) ∧ d.wmAddr = b.wmAddr ∧
      (∀ k, k < buf.length → d.cellByte (.wram, l + k) = buf.getD k 0) ∧
      (∀ c, (∀ k, k < buf.length → c ≠ (.wram, l + k)) → d.cellByte c = b.cellByte c) :=
  ⟨_, (workRamWriteA_eq b h hb).trans (if_neg (by omega)), workRamWriteFrom_wmAddr l buf b,
    fun _ => workRamWriteFrom_cellByte hw fits, fun _ => workRamWriteFrom_cellByte_other b⟩

theorem workRamReadA_of_none {a : Addr} {n : Nat} {b : Bus} (h : busALocal a = none) (hn : 0 < n) :
    workRamReadA a n b = .fault .outOfRange := by
  simp only [workRamReadA, withBuffer_of_pos hn, h]

theorem workRamWriteA_of_none {a : Addr} {buf : List Byte} {b : Bus} (h : busALocal a = none) (hb : buf ≠ []) :
    workRamWriteA a buf b = .fault .outOfRange := by
  simp only [workRamWriteA, withBuffer_of_pos (List.length_pos_iff.mpr hb), h]

/-! ## The latch ports -/

/-- The bits of a `WmAddr` from the `n`-th on. -/
theorem toNat_and_high (w : BitVec 17) (n : Nat) : (w &&& BitVec.allOnes 17 <<< n).toNat = 2 ^ n * (w.toNat / 2 ^ n) := by
  rw [← BitVec.shiftLeft_ushiftRight, BitVec.toNat_shiftLeft, BitVec.toNat_ushiftRight, Nat.shiftRight_eq_div_pow,
    Nat.shiftLeft_eq, Nat.mul_comm]
  exact Nat.mod_eq_of_lt ((Nat.mul_div_le _ _).trans_lt w.isLt)

/-- A write of the low byte of `WmAddr` (R86). -/
theorem replaceLow_eq (w : BitVec 17) (v : Byte) :
    (w &&& 0x1FF00) ||| v.setWidth 17 = BitVec.ofNat 17 (w.toNat / 256 * 256 + v.toNat) := by
  have kept : (w &&& 0x1FF00).toNat = 2 ^ 8 * (w.toNat / 2 ^ 8) := toNat_and_high w 8
  refine BitVec.eq_of_toNat_eq ?_
  rw [BitVec.toNat_or, kept, BitVec.toNat_setWidth_of_le (by omega), ← Nat.two_pow_add_eq_or_of_lt v.isLt, BitVec.toNat_ofNat]
  omega

/-- A write of its middle byte (R86). -/
theorem replaceMiddle_eq (w : BitVec 17) (v : Byte) :
    (w &&& (0x100FF : BitVec 17)) ||| (v.setWidth 17 <<< 8) =
      BitVec.ofNat 17 (w.toNat / 65536 * 65536 + v.toNat * 256 + w.toNat % 256) := by
  have high : (w &&& 0x10000).toNat = 2 ^ 16 * (w.toNat / 2 ^ 16) := toNat_and_high w 16
  have low : (w &&& 0xFF).toNat = w.toNat % 2 ^ 8 := Nat.and_two_pow_sub_one_eq_mod w.toNat 8
  have middle : (v.setWidth 17 <<< 8).toNat = 2 ^ 8 * v.toNat := by
    rw [BitVec.toNat_shiftLeft, BitVec.toNat_setWidth_of_le (by omega), Nat.shiftLeft_eq]
    omega
  have masks : (w &&& (0x100FF : BitVec 17)) ||| (v.setWidth 17 <<< 8) =
      (w &&& (0x10000 : BitVec 17)) ||| ((v.setWidth 17 <<< 8) ||| (w &&& 0xFF)) := by
    rw [show (0x100FF : BitVec 17) = 0x10000 ||| 0xFF from rfl, BitVec.and_or_distrib_left, BitVec.or_assoc,
      BitVec.or_comm (w &&& 0xFF)]
  refine BitVec.eq_of_toNat_eq ?_
  rw [masks, BitVec.toNat_or, BitVec.toNat_or, high, middle, low, ← Nat.two_pow_add_eq_or_of_lt (i := 8) (by omega),
    ← Nat.two_pow_add_eq_or_of_lt (by omega), BitVec.toNat_ofNat]
  omega

/-- A write of its bit 16, by bit 0 of the byte (R86). -/
theorem replaceHigh_eq (w : BitVec 17) (v : Byte) :
    (w &&& (0x0FFFF : BitVec 17)) ||| ((v &&& 1).setWidth 17 <<< 16) =
      BitVec.ofNat 17 (v.toNat % 2 * 65536 + w.toNat % 65536) := by
  have low : (w &&& 0x0FFFF).toNat = w.toNat % 2 ^ 16 := Nat.and_two_pow_sub_one_eq_mod w.toNat 16
  have high : ((v &&& 1).setWidth 17 <<< 16).toNat = 2 ^ 16 * (v.toNat % 2) := by
    rw [BitVec.toNat_shiftLeft, BitVec.toNat_setWidth_of_le (by omega), Nat.shiftLeft_eq, BitVec.toNat_and,
      show (1 : Byte).toNat = 2 ^ 1 - 1 from rfl, Nat.and_two_pow_sub_one_eq_mod]
    omega
  refine BitVec.eq_of_toNat_eq ?_
  rw [BitVec.or_comm, BitVec.toNat_or, high, low, ← Nat.two_pow_add_eq_or_of_lt (by omega), BitVec.toNat_ofNat]
  omega

section
variable (v : Byte) (b : Bus)

theorem Bus.portWrite_data : b.portWrite 0x2180 v = { b.setCell (.wram, b.wmAddr.toNat) v with wmAddr := b.wmAddr + 1 } := rfl

theorem Bus.portWrite_low :
    b.portWrite 0x2181 v = { b with wmAddr := BitVec.ofNat 17 (b.wmAddr.toNat / 256 * 256 + v.toNat) } :=
  congrArg (fun w => { b with wmAddr := w }) (replaceLow_eq b.wmAddr v)

theorem Bus.portWrite_middle :
    b.portWrite 0x2182 v =
      { b with wmAddr := BitVec.ofNat 17 (b.wmAddr.toNat / 65536 * 65536 + v.toNat * 256 + b.wmAddr.toNat % 256) } :=
  congrArg (fun w => { b with wmAddr := w }) (replaceMiddle_eq b.wmAddr v)

theorem Bus.portWrite_high :
    b.portWrite 0x2183 v = { b with wmAddr := BitVec.ofNat 17 (v.toNat % 2 * 65536 + b.wmAddr.toNat % 65536) } :=
  congrArg (fun w => { b with wmAddr := w }) (replaceHigh_eq b.wmAddr v)

end

section
variable (r nd : Bool) (b : Bus)

theorem Bus.portRead_data :
    b.portRead r nd 0x2180 =
      (some (b.cellByte (.wram, b.wmAddr.toNat)), if nd then b else { b with wmAddr := b.wmAddr + 1 }) := rfl

theorem Bus.portRead_low : b.portRead true nd 0x2181 = (some (BitVec.ofNat 8 (b.wmAddr.toNat % 256)), b) := by
  have byte : b.wmAddr.setWidth 8 = BitVec.ofNat 8 (b.wmAddr.toNat % 256) := by
    refine BitVec.eq_of_toNat_eq ?_
    rw [BitVec.toNat_setWidth, BitVec.toNat_ofNat]
    omega
  exact congrArg (fun v => (some v, b)) byte

theorem Bus.portRead_middle : b.portRead true nd 0x2182 = (some (BitVec.ofNat 8 (b.wmAddr.toNat / 256 % 256)), b) := by
  have byte : (b.wmAddr >>> 8).setWidth 8 = BitVec.ofNat 8 (b.wmAddr.toNat / 256 % 256) := by
    refine BitVec.eq_of_toNat_eq ?_
    rw [BitVec.toNat_setWidth, BitVec.toNat_ushiftRight, Nat.shiftRight_eq_div_pow, BitVec.toNat_ofNat]
    omega
  exact congrArg (fun v => (some v, b)) byte

theorem Bus.portRead_high : b.portRead true nd 0x2183 = (some (BitVec.ofNat 8 (b.wmAddr.toNat / 65536)), b) := by
  have byte : (b.wmAddr >>> 16).setWidth 8 = BitVec.ofNat 8 (b.wmAddr.toNat / 65536) := by
    refine BitVec.eq_of_toNat_eq ?_
    rw [BitVec.toNat_setWidth, BitVec.toNat_ushiftRight, Nat.shiftRight_eq_div_pow, BitVec.toNat_ofNat]
  exact congrArg (fun v => (some v, b)) byte

/-- Without `WMADD_READABLE` the latch ports are not serviced (R87). -/
theorem Bus.portRead_unreadable {port : Word} (h : port ≠ 0x2180) : b.portRead false nd port = (none, b) := by
  rw [Bus.portRead, if_neg h]
  rfl

end

end Sys2Proof.Machine

namespace Sys2Proof.Claims
open Sys2Proof.Machine

/-- Settles O7: a read changes the latch, WmAddr and the external history at most. -/
theorem readSideEffects : Obligations.ReadSideEffects := by
  intro r nd a b
  have port : offsetOf a = 0x2180 ↔ a.toNat % 65536 = 0x2180 := by
    rw [← toNat_offsetOf]
    exact BitVec.toNat_inj.symm
  refine ⟨Bus.read_cellByte r nd a b, Bus.read_cart r nd a b, Bus.read_latch r nd a b, ?_⟩
  simp only [Bus.read_wmAddr, ofNat_toNat_add_one, port]

/-- Settles O8: a write stores into the cell its address reaches, which is none of ROM, and into no other. -/
theorem writeStoresOneCell : Obligations.WriteStoresOneCell :=
  fun a v b hw => ⟨Bus.write_wf a v b hw, Bus.write_cart a v b,
    fun c h => ⟨Bus.write_cellByte_same a v b c hw h, Bus.storeCell_ne_rom h⟩, Bus.write_cellByte_other a v b⟩

/-- Settles O9: the local address by bank, and from it each access. -/
theorem workRamBusA : Obligations.WorkRamBusA := by
  intro a n buf b hn hb bank here inWorkRam
  refine ⟨fun h => or_assoc.mp (bank_of_getTarget_wramA h), ?_⟩
  by_cases inside : inWorkRam
  · have atHere : busALocal a = some here := by
      rw [busALocal_eq]
      by_cases linear : bank = 0x7E ∨ bank = 0x7F
      · rw [if_neg (by omega), if_pos linear]
        exact congrArg some (if_pos linear).symm
      · rw [if_pos (by omega)]
        exact congrArg some (if_neg linear).symm
    rw [if_pos inside]
    exact ⟨workRamReadA_eq b atHere hn, fun h => (workRamWriteA_eq b atHere hb).trans (if_pos h),
      workRamWriteA_stores atHere hb⟩
  · have outside : busALocal a = none := by
      rw [busALocal_eq, if_neg (by omega), if_neg (by omega)]
    rw [if_neg inside]
    exact ⟨workRamReadA_of_none outside hn, workRamWriteA_of_none outside hb⟩

/-- Settles O10: at a legal port a buffer of one byte is the port's own access, and each port's is computed. -/
theorem workRamBusB : Obligations.WorkRamBusB := by
  have increment (b : Bus) : b.wmAddr + 1 = BitVec.ofNat 17 ((b.wmAddr.toNat + 1) % 0x20000) := by
    rw [← ofNat_toNat_add_one]
    exact BitVec.eq_of_toNat_eq (by simp)
  refine ⟨fun r nd v b hw => ?_, fun nd v b => ?_⟩
  · have stored := b.cellByte_setCell_same (.wram, b.wmAddr.toNat) v hw Region.noConfusion
    rw [workRamReadB_one (by decide) (by decide), workRamWriteB_one (by decide) (by decide), Bus.portRead_data,
      Bus.portWrite_data, ← increment]
    exact ⟨rfl, _, rfl, rfl, stored, fun c h => b.cellByte_setCell_other _ c v h⟩
  · refine ⟨?_, ?_, ?_, ?_, ?_, ?_, fun port lo hi => ?_⟩
    · rw [workRamWriteB_one (by decide) (by decide), Bus.portWrite_low]
    · rw [workRamWriteB_one (by decide) (by decide), Bus.portWrite_middle]
    · rw [workRamWriteB_one (by decide) (by decide), Bus.portWrite_high]
    · rw [workRamReadB_one (by decide) (by decide), Bus.portRead_low, Option.map_some]
    · rw [workRamReadB_one (by decide) (by decide), Bus.portRead_middle, Option.map_some]
    · rw [workRamReadB_one (by decide) (by decide), Bus.portRead_high, Option.map_some]
    · have latch : port ≠ 0x2180 := fun e => by
        rw [e] at lo
        exact absurd lo (by decide)
      rw [workRamReadB_one (by omega) hi, Bus.portRead_unreadable nd b latch, Option.map_none]

end Sys2Proof.Claims
end

section
/-! PROOFS. The cartridge: its accesses on the bus (R112, R113), autodetection (R90 to R92), and its vectors in bank 0 (R95, R461). -/

namespace Sys2Proof.Machine

/-! ## Accesses -/

section
variable {a : Addr} {b : Bus} {cart : Cartridge} (target : getTarget a = .cart) (inserted : b.cart = some cart)
include target inserted

theorem Bus.read_of_cart (r nd : Bool) : (b.read r nd a).1 = ((cart.cell a).map b.cellByte).getD b.latch := by
  simp only [Bus.read, Bus.deviceRead, target, Bus.cartCell, inserted, Option.bind_some]
  cases cart.cell a <;> rfl

theorem Bus.deviceWrite_of_cell {c : CellId} (v : Byte) (h : cart.cell a = some c) :
    b.deviceWrite a v = (decide (c.1 ≠ .rom), b.setCell c v) := by
  simp only [Bus.deviceWrite, target, Bus.cartCell, inserted, Option.bind_some, h]

theorem Bus.deviceWrite_of_noCell (v : Byte) (h : cart.cell a = none) : b.deviceWrite a v = (false, b) := by
  simp only [Bus.deviceWrite, target, Bus.cartCell, inserted, Option.bind_some, h]

/-- An address that reaches an SRAM cell: the read answers it, the write is serviced and read back (R113). -/
theorem Bus.sram_access {c : CellId} (r nd : Bool) (v : Byte) (hw : b.wf = true) (h : cart.cell a = some c) (hr : c.1 ≠ .rom) :
    (b.read r nd a).1 = b.cellByte c ∧ c.1.fits c.2 ∧ (b.deviceWrite a v).1 = true ∧ (b.write a v).cellByte c = v := by
  rw [Bus.read_of_cart target inserted, Bus.write, Bus.deviceWrite_of_cell target inserted v h, h]
  exact ⟨rfl, cart.cell_fits a c h, decide_eq_true hr, b.cellByte_setCell_same c v hw hr⟩

/-- An address that reaches no cell is open bus (R70, R112). -/
theorem Bus.openBus_access (r nd : Bool) (v : Byte) (h : cart.cell a = none) :
    (b.read r nd a).1 = b.latch ∧ b.deviceWrite a v = (false, b) := by
  rw [Bus.read_of_cart target inserted, h]
  exact ⟨rfl, Bus.deviceWrite_of_noCell target inserted v h⟩

/-- An address that reaches a ROM cell answers it and is never written (R113). -/
theorem Bus.rom_access {l : Nat} (r nd : Bool) (v : Byte) (h : cart.cell a = some (.rom, l)) :
    (b.read r nd a).1 = cart.rom.read l ∧ b.deviceWrite a v = (false, b) := by
  rw [Bus.read_of_cart target inserted, Bus.deviceWrite_of_cell target inserted v h, h]
  refine ⟨?_, rfl⟩
  simp only [Option.map_some, Option.getD_some, Bus.cellByte, inserted]

end

/-! ## Autodetection -/

/-- A checksum is the complement of its complement where the two add up to FFFFh (R91). -/
theorem eq_not_iff_add (x y : Word) : x = ~~~ y ↔ x.toNat + y.toNat = 0xFFFF := by
  rw [← BitVec.toNat_inj, BitVec.toNat_not]
  omega

theorem Hypothesis.accepts_iff (img : RomImage) (h : Hypothesis) :
    h.accepts img = true ↔
      h.start + 0x50 ≤ img.size ∧ (img.u16 (h.start + 0x2E)).toNat + (img.u16 (h.start + 0x2C)).toNat = 0xFFFF := by
  rw [Hypothesis.accepts, Bool.and_eq_true, decide_eq_true_eq, beq_iff_eq, eq_not_iff_add]

theorem constructCartridge_eq_none_iff (img : RomImage) :
    constructCartridge img = none ↔ ∀ h ∈ hypotheses, ¬ h.accepts img = true := by
  rw [constructCartridge, Option.map_eq_none_iff, List.find?_eq_none]

/-- The cartridge is the one of the first hypothesis that accepts the file (R90). -/
theorem constructCartridge_eq_some {img : RomImage} {cart : Cartridge} (h : constructCartridge img = some cart) :
    ∃ pre hyp post, hypotheses = pre ++ hyp :: post ∧ (∀ k ∈ pre, ¬ k.accepts img = true) ∧ hyp.accepts img = true ∧
      cart = hyp.cartridge img := by
  obtain ⟨hyp, found, rfl⟩ := Option.map_eq_some_iff.mp h
  obtain ⟨accepted, pre, post, split, rejected⟩ := List.find?_eq_some_iff_append.mp found
  exact ⟨pre, hyp, post, split, fun k hk => by simpa using rejected k hk, accepted, rfl⟩

/-- The ROM's bytes are the file's after the copier header (R92). -/
theorem RomImage.read_romData {img : RomImage} {skip n : Nat} (hn : n < img.size - skip) :
    (img.romData skip).read n = img.at (n + skip) := by
  obtain ⟨size, bytes⟩ := img
  dsimp only at hn
  simp only [RomImage.romData, RomImage.at]
  induction bytes with
  | nil => rfl
  | cons c rest ih =>
    obtain ⟨k, v⟩ := c
    by_cases kept : skip ≤ k ∧ k < size
    · have place : k - skip = n ↔ k = n + skip := by omega
      rw [List.filterMap_cons, if_pos kept]
      simp only [Mem.read, place, ih]
    · have other : k ≠ n + skip := by omega
      rw [List.filterMap_cons, if_neg kept, Mem.read, if_neg other]
      exact ih

theorem RomImage.slice_getD {img : RomImage} {start n k : Nat} (hk : k < n) :
    (img.slice start n).getD k 0 = img.at (start + k) := by
  simp [RomImage.slice, hk]

/-- The hypotheses as the statement lists them: mapping, copier header, and start of the registration header. -/
def Hypothesis.row (h : Hypothesis) : Bool × Bool × Nat := (h.isLoRom, h.hasHeaderOffset, h.start)

theorem map_row_hypotheses :
    hypotheses.map Hypothesis.row =
      [(false, false, 0xFFB0), (true, false, 0x7FB0), (false, true, 0x101B0), (true, true, 0x81B0)] := rfl

/-! ## The vectors -/

theorem Cartridge.cell_of_rom {cart : Cartridge} {a : Addr} {l : Nat} (h : convertToLocalAddr cart.isLoRom a = (.rom, l))
    (hl : l < cart.romLen) : cart.cell a = some (.rom, l) := by
  rw [Cartridge.cell, h]
  exact if_pos hl

/-- The upper half of bank 0 under either mapping: the place of the vector block in the ROM (R101, R108). -/
theorem convertToLocalAddr_vector (h : Hypothesis) {k : Nat} (hk : k < 0x20) :
    convertToLocalAddr h.isLoRom (BitVec.ofNat 24 (0xFFE0 + k)) = (.rom, h.start + 0x30 + k - h.skip) := by
  have number : (BitVec.ofNat 24 (0xFFE0 + k)).toNat = 0xFFE0 + k := by
    rw [BitVec.toNat_ofNat]
    omega
  have bank : (0xFFE0 + k) / 65536 = 0 := by omega
  have offset : (0xFFE0 + k) % 65536 = 0xFFE0 + k := by omega
  unfold Hypothesis.start
  generalize h.skip = skip
  cases h.isLoRom
  · rw [convertToLocalAddr_false, number, bank, offset, hiRomLocal_eq (by omega), if_pos (by omega), if_pos (by omega),
      if_neg Bool.false_ne_true]
    refine congrArg (Prod.mk _) ?_
    omega
  · rw [convertToLocalAddr_true, number, bank, offset, loRomLocal_eq (by omega) (by omega), if_pos (by omega),
      if_neg (by omega), if_pos rfl]
    refine congrArg (Prod.mk _) ?_
    omega

end Sys2Proof.Machine

namespace Sys2Proof.Claims
open Sys2Proof.Machine

/-- Settles O13: the address reaches the cell its translation names, or none. -/
theorem cartridgeAccess : Obligations.CartridgeAccess := by
  intro a v r nd b cart target inserted hw
  rcases local_eq : convertToLocalAddr cart.isLoRom a with ⟨t, l⟩
  cases t
  case rom =>
    dsimp only
    by_cases below : l < cart.romLen
    · rw [if_pos below]
      exact Bus.rom_access target inserted r nd v (Cartridge.cell_of_rom local_eq below)
    · rw [if_neg below]
      exact Bus.openBus_access target inserted r nd v (by rw [Cartridge.cell, local_eq]; exact if_neg below)
  case mode20Sram1 =>
    exact Bus.sram_access (c := (.sram1, l)) target inserted r nd v hw (by rw [Cartridge.cell, local_eq]) Region.noConfusion
  case mode20Sram2 =>
    exact Bus.sram_access (c := (.sram2, l)) target inserted r nd v hw (by rw [Cartridge.cell, local_eq]) Region.noConfusion
  case mode21Sram =>
    exact Bus.sram_access (c := (.sramH, l)) target inserted r nd v hw (by rw [Cartridge.cell, local_eq]) Region.noConfusion
  case unmapped => exact Bus.openBus_access target inserted r nd v (by rw [Cartridge.cell, local_eq])

/-- Settles O14: the statement's rows are the hypotheses in their order, and acceptance is that of the statement. -/
theorem autodetection : Obligations.Autodetection := by
  intro img starts accepts
  have rows : starts = hypotheses.map Hypothesis.row := map_row_hypotheses.symm
  have accepts_row (h : Hypothesis) : h.accepts img = true ↔ accepts h.row := h.accepts_iff img
  refine ⟨?_, fun cart hc => ?_⟩
  · simp only [constructCartridge_eq_none_iff, accepts_row, rows, List.forall_mem_map]
  · obtain ⟨pre, h, post, split, rejected, accepted, rfl⟩ := constructCartridge_eq_some hc
    refine ⟨pre.map Hypothesis.row, h.row, post.map Hypothesis.row, ?_, ?_, (accepts_row h).mp accepted, rfl, rfl, rfl,
      fun n => RomImage.read_romData, rfl, rfl⟩
    · rw [rows, split, List.map_append, List.map_cons]
    · simpa only [List.forall_mem_map, ← accepts_row] using rejected

/-- Settles O15: the accepted hypothesis puts the vector block where its mapping reads FFE0 of bank 0. -/
theorem vectorsOnTheBus : Obligations.VectorsOnTheBus := by
  intro img cart hc k hk
  obtain ⟨_, h, _, _, _, accepted, rfl⟩ := constructCartridge_eq_some hc
  have inside : h.start + 0x50 ≤ img.size := ((h.accepts_iff img).mp accepted).1
  have skipped : h.skip ≤ h.start := Nat.le_add_left _ _
  have below : h.start + 0x30 + k - h.skip < img.size - h.skip := by omega
  refine ⟨_, Cartridge.cell_of_rom (convertToLocalAddr_vector h hk) below, ?_⟩
  have place : h.start + 0x30 + k - h.skip + h.skip = h.start + 0x30 + k := by omega
  calc (img.romData h.skip).read (h.start + 0x30 + k - h.skip)
      = img.at (h.start + 0x30 + k) := by rw [RomImage.read_romData below, place]
    _ = (img.slice (h.start + 0x30) 0x20).getD k 0 := (RomImage.slice_getD hk).symm

end Sys2Proof.Claims
end

section
/-! PROOFS. The external agent: what it writes, and that it changes nothing else (R77). -/

namespace Sys2Proof.Machine

/-- The agent's list of writes changes WRAM only. -/
theorem Bus.agentWrites_eq (ws : List (BitVec 17 × Byte)) (b : Bus) : ∃ m, b.agentWrites ws = { b with wram := m } := by
  induction ws generalizing b with
  | nil => exact ⟨b.wram, rfl⟩
  | cons w ws ih =>
    obtain ⟨m, h⟩ := ih (b.setCell (.wram, w.1.toNat) w.2)
    exact ⟨m, h⟩

/-- In canonical memories each byte of WRAM holds the last value listed for it, or what it held before. -/
theorem Bus.agentWrites_cellByte (ws : List (BitVec 17 × Byte)) {b : Bus} (hw : b.wf = true) (k : BitVec 17) :
    (b.agentWrites ws).cellByte (.wram, k.toNat) =
      ((ws.reverse.find? fun w => w.1 == k).map (·.2)).getD (b.cellByte (.wram, k.toNat)) := by
  induction ws generalizing b with
  | nil => rfl
  | cons w ws ih =>
    have first : (b.setCell (.wram, w.1.toNat) w.2).cellByte (.wram, k.toNat) =
        if w.1 == k then w.2 else b.cellByte (.wram, k.toNat) := by
      by_cases same : w.1 = k
      · rw [if_pos (beq_iff_eq.mpr same), same]
        exact b.cellByte_setCell_same (.wram, k.toNat) w.2 hw Region.noConfusion
      · rw [if_neg (mt beq_iff_eq.mp same)]
        exact b.cellByte_setCell_other _ _ w.2 fun e => same (BitVec.eq_of_toNat_eq (congrArg Prod.snd e).symm)
    have rest := ih (b.wf_setCell (.wram, w.1.toNat) w.2 w.1.isLt hw)
    rw [first] at rest
    refine rest.trans ?_
    rw [List.reverse_cons, List.find?_append]
    cases ws.reverse.find? fun w => w.1 == k with
    | some v => rfl
    | none =>
      rw [List.find?_singleton]
      cases w.1 == k <;> rfl

theorem State.agentStep_of_false {inp : BoundaryInput} {s : State} (h : s.params.extAgent = false) : s.agentStep inp = s := by
  simp [State.agentStep, h]

theorem State.agentStep_of_true {inp : BoundaryInput} {s : State} (h : s.params.extAgent = true) :
    s.agentStep inp = { s with
      bus := { s.bus.agentWrites inp.agentWrites with wmAddr := inp.agentWmAddr.getD s.bus.wmAddr }
      marks := s.marksAfter (agentMarks inp) } := by
  obtain ⟨m, written⟩ := s.bus.agentWrites_eq inp.agentWrites
  simp [State.agentStep, h, written]

/-- The agent changes WRAM, `WmAddr` and the model's record at most. -/
theorem State.agentStep_eq (inp : BoundaryInput) (s : State) :
    ∃ m a r, s.agentStep inp = { s with bus := { s.bus with wram := m, wmAddr := a }, marks := r } := by
  cases h : s.params.extAgent with
  | false => exact ⟨_, _, _, State.agentStep_of_false h⟩
  | true =>
    obtain ⟨m, written⟩ := s.bus.agentWrites_eq inp.agentWrites
    rw [State.agentStep_of_true h, written]
    exact ⟨m, _, _, rfl⟩

end Sys2Proof.Machine

namespace Sys2Proof.Claims
open Sys2Proof.Machine

/-- Settles O56: the frame of the agent's step, and byte by byte what its list leaves in WRAM. -/
theorem agentBounds : Obligations.AgentBounds := by
  intro inp s t
  refine ⟨State.agentStep_of_false, ?_, fun h hw => ?_⟩
  · obtain ⟨m, a, r, changed⟩ := s.agentStep_eq inp
    have kept := (s.agentStep_accessesTo inp).evolvesTo
    obtain ⟨_, _, draw⟩ := kept.record
    exact ⟨m, a, r, changed, kept.wf, fun hd => (congrArg State.marks changed).symm.trans (draw hd)⟩
  · dsimp only [t]
    rw [State.agentStep_of_true h]
    exact ⟨rfl, Bus.agentWrites_cellByte _ hw⟩

end Sys2Proof.Claims
end

section
/-! PROOFS. The decoder and the encoder (R130 to R140, R156): how each instruction reads its operand bytes, and that an encoding is
read back. -/

namespace Sys2Proof

/-! ## Operand bytes and the values they assemble to (R137) -/

theorem wordLo_eq_extractLsb' (v : Word) : wordLo v = v.extractLsb' 0 8 := BitVec.setWidth_eq_extractLsb' (by omega)

theorem wordHi_eq_extractLsb' (v : Word) : wordHi v = v.extractLsb' 8 8 := BitVec.setWidth_ushiftRight_eq_extractLsb

theorem longBytes_eq_extractLsb' (a : Addr) : longBytes a = [a.extractLsb' 0 8, a.extractLsb' 8 8, a.extractLsb' 16 8] := by
  rw [longBytes, BitVec.setWidth_eq_extractLsb' (by omega), BitVec.setWidth_ushiftRight_eq_extractLsb,
    BitVec.setWidth_ushiftRight_eq_extractLsb]

@[simp] theorem op16_wordBytes (v : Word) : op16 [wordLo v, wordHi v] = v := by
  rw [wordLo_eq_extractLsb', wordHi_eq_extractLsb']
  exact BitVec.extractLsb'_append_extractLsb' (w := 8) (len := 8)

@[simp] theorem wordLo_op16 (lo hi : Byte) : wordLo (op16 [lo, hi]) = lo :=
  (wordLo_eq_extractLsb' _).trans BitVec.extractLsb'_append_eq_right

@[simp] theorem wordHi_op16 (lo hi : Byte) : wordHi (op16 [lo, hi]) = hi :=
  (wordHi_eq_extractLsb' _).trans BitVec.extractLsb'_append_eq_left

@[simp] theorem op24_longBytes (a : Addr) : op24 (longBytes a) = a := by
  have upper : a.extractLsb' 16 8 ++ a.extractLsb' 8 8 = a.extractLsb' 8 16 :=
    BitVec.extractLsb'_append_extractLsb'_eq_extractLsb' rfl
  calc op24 (longBytes a) = a.extractLsb' 16 8 ++ a.extractLsb' 8 8 ++ a.extractLsb' 0 8 := by
        rw [longBytes_eq_extractLsb']; rfl
    _ = a.extractLsb' 8 16 ++ a.extractLsb' 0 8 := by rw [upper]
    _ = a := BitVec.extractLsb'_append_extractLsb' (w := 16) (len := 8)

@[simp] theorem longBytes_op24 (lo mid bank : Byte) : longBytes (op24 [lo, mid, bank]) = [lo, mid, bank] := by
  have low : (op24 [lo, mid, bank]).extractLsb' 0 8 = lo := BitVec.extractLsb'_append_eq_right
  have middle : (op24 [lo, mid, bank]).extractLsb' 8 8 = mid :=
    (BitVec.extractLsb'_append_eq_of_le (by omega)).trans BitVec.extractLsb'_append_eq_right
  have high : (op24 [lo, mid, bank]).extractLsb' 16 8 = bank :=
    (BitVec.extractLsb'_append_eq_of_le (by omega)).trans BitVec.extractLsb'_append_eq_left
  rw [longBytes_eq_extractLsb', low, middle, high]

@[simp] theorem opImm_bytes (imm : Imm) : opImm imm.bytes = imm := by
  cases imm with
  | byte v => rfl
  | word v => exact congrArg Imm.word (op16_wordBytes v)

/-- One operand byte or two are read as an immediate of just those bytes. -/
theorem bytes_opImm {l : List Byte} (h : l.length = 1 ∨ l.length = 2) : (opImm l).bytes = l := by
  rcases h with h | h
  · obtain ⟨v, rfl⟩ := List.length_eq_one_iff.mp h
    rfl
  · obtain ⟨lo, hi, rfl⟩ := List.length_eq_two.mp h
    simp [opImm, Imm.bytes]

theorem Imm.bytes_length (imm : Imm) : imm.bytes.length = 1 ∨ imm.bytes.length = 2 := by
  cases imm with
  | byte v => exact .inl rfl
  | word v => exact .inr rfl

/-! ## How an instruction reads its operand bytes -/

/-- `Reads b i f`: `f` gives the form of `i`, of opcode `b`, the operand its bytes assemble to, in the order the encoder writes
them. -/
inductive Reads (b : Byte) : Instr → (List Byte → Instr) → Prop where
  | none {i : Instr} (h : i.opcode = b ∧ i.operand.bytes = []) : Reads b i fun _ => i
  | byte {c : Byte → Instr} {v : Byte} (h : ∀ v, (c v).opcode = b ∧ (c v).operand.bytes = [v]) : Reads b (c v) fun l => c (op8 l)
  | banks {c : Byte → Byte → Instr} {u v : Byte} (h : ∀ u v, (c u v).opcode = b ∧ (c u v).operand.bytes = [u, v]) :
      Reads b (c u v) fun l => c (op8 l) (op8' l)
  | imm {c : Imm → Instr} {v : Imm} (h : ∀ v, (c v).opcode = b ∧ (c v).operand.bytes = v.bytes) :
      Reads b (c v) fun l => c (opImm l)
  | word {c : Word → Instr} {v : Word} (h : ∀ v, (c v).opcode = b ∧ (c v).operand.bytes = [wordLo v, wordHi v]) :
      Reads b (c v) fun l => c (op16 l)
  | long {c : Addr → Instr} {v : Addr} (h : ∀ v, (c v).opcode = b ∧ (c v).operand.bytes = longBytes v) :
      Reads b (c v) fun l => c (op24 l)

section
variable {b : Byte} {i : Instr} {f : List Byte → Instr} {l : List Byte}

/-- An instruction is read back from its own operand bytes. -/
theorem Reads.apply_bytes (h : Reads b i f) : f i.operand.bytes = i := by
  cases h with
  | none h => rfl
  | byte h => simp only [h]; rfl
  | banks h => simp only [h]; rfl
  | imm h => simp only [h, opImm_bytes]
  | word h => simp only [h, op16_wordBytes]
  | long h => simp only [h, op24_longBytes]

theorem Reads.opcode_apply (h : Reads b i f) : (f l).opcode = b := by
  cases h with
  | none h => exact h.1
  | banks h => exact (h _ _).1
  | byte h | imm h | word h | long h => exact (h _).1

/-- The instruction read from as many bytes encodes to those bytes. -/
theorem Reads.bytes_apply (h : Reads b i f) (hl : l.length = i.operand.bytes.length) : (f l).operand.bytes = l := by
  cases h with
  | none h =>
    rw [h.2] at hl ⊢
    exact (List.length_eq_zero_iff.mp hl).symm
  | byte h =>
    rw [(h _).2] at hl ⊢
    obtain ⟨v, rfl⟩ := List.length_eq_one_iff.mp hl
    rfl
  | banks h =>
    rw [(h _ _).2] at hl ⊢
    obtain ⟨u, v, rfl⟩ := List.length_eq_two.mp hl
    rfl
  | @imm c v h =>
    rw [(h _).2] at hl ⊢
    exact bytes_opImm (hl ▸ v.bytes_length)
  | word h =>
    rw [(h _).2] at hl ⊢
    obtain ⟨lo, hi, rfl⟩ := List.length_eq_two.mp hl
    rw [wordLo_op16, wordHi_op16]
  | long h =>
    rw [(h _).2] at hl ⊢
    obtain ⟨lo, mid, bank, rfl⟩ := List.length_eq_three.mp hl
    exact longBytes_op24 lo mid bank

end

/-- The decoder's table, by the operand an instruction takes (R155). -/
theorem reads_assemble (i : Instr) : Reads i.opcode i (assemble i.opcode) := by
  cases i
  all_goals dsimp only [Instr.opcode]
  case php | aslAcc | phd | clc | incAcc | tcs | plp | rolAcc | pld | sec | decAcc | tsc | rti | pha | lsrAcc | phk | cli | phy
      | tcd | rts | pla | rorAcc | rtl | sei | ply | tdc | dey | txa | phb | tya | txs | txy | tay | tax | plb | clv | tsx | tyx
      | iny | dex | wai | cld | phx | stp | inx | nop | xba | sed | plx | xce =>
    exact .none ⟨rfl, rfl⟩
  case mvp | mvn => exact .banks fun _ _ => ⟨rfl, rfl⟩
  case oraImm | andImm | eorImm | adcImm | bitImm | ldyImm | ldxImm | ldaImm | cpyImm | cmpImm | cpxImm | sbcImm =>
    exact .imm fun _ => ⟨rfl, rfl⟩
  case tsbAbs | oraAbs | aslAbs | oraAbsY | trbAbs | oraAbsX | aslAbsX | jsrAbs | bitAbs | andAbs | rolAbs | andAbsY | bitAbsX
      | andAbsX | rolAbsX | jmpAbs | eorAbs | lsrAbs | eorAbsY | eorAbsX | lsrAbsX | per | jmpAbsInd | adcAbs | rorAbs | adcAbsY
      | jmpAbsIndX | adcAbsX | rorAbsX | brl | styAbs | staAbs | stxAbs | staAbsY | stzAbs | staAbsX | stzAbsX | ldyAbs | ldaAbs
      | ldxAbs | ldaAbsY | ldyAbsX | ldaAbsX | ldxAbsY | cpyAbs | cmpAbs | decAbs | cmpAbsY | jmlAbsIndLong | cmpAbsX | decAbsX
      | cpxAbs | sbcAbs | incAbs | pea | sbcAbsY | jsrAbsIndX | sbcAbsX | incAbsX =>
    exact .word fun _ => ⟨rfl, rfl⟩
  case oraLong | oraLongX | jsl | andLong | andLongX | eorLong | jmlLong | eorLongX | adcLong | adcLongX | staLong | staLongX
      | ldaLong | ldaLongX | cmpLong | cmpLongX | sbcLong | sbcLongX =>
    exact .long fun _ => ⟨rfl, rfl⟩
  all_goals exact .byte fun _ => ⟨rfl, rfl⟩

/-! ## Lengths (R133, R138) -/

/-- An immediate fits the width whose byte count it has. -/
theorem Imm.fits_iff (wide : Bool) (imm : Imm) : imm.fits wide = true ↔ imm.bytes.length = 1 + if wide then 1 else 0 := by
  cases imm <;> cases wide <;> simp [Imm.fits, Imm.bytes]

/-- An instruction is well-formed exactly where it has the operand bytes its record asks for. -/
theorem wellFormed_iff (w : Widths) (i : Instr) : i.wellFormed w = true ↔ i.operand.bytes.length = operandBytes w i.opcode := by
  cases i
  all_goals dsimp only [Instr.opcode]
  case oraImm imm | andImm imm | eorImm imm | adcImm imm | bitImm imm | ldaImm imm | cmpImm imm | sbcImm imm =>
    exact imm.fits_iff w.m16
  case ldyImm imm | ldxImm imm | cpyImm imm | cpxImm imm => exact imm.fits_iff w.x16
  all_goals exact iff_of_true rfl rfl

/-- Every opcode byte has an instruction that is well-formed (R140): the one whose operand bytes are zero. -/
theorem exists_wellFormed (w : Widths) (b : Byte) : ∃ i : Instr, i.opcode = b ∧ i.wellFormed w = true := by
  obtain ⟨m, x⟩ := w
  have zeros : ∀ m x : Bool, ∀ b : Byte, let i := assemble b (List.replicate (operandBytes ⟨m, x⟩ b) 0)
      i.opcode = b ∧ i.wellFormed ⟨m, x⟩ = true := by decide
  exact ⟨_, zeros m x b⟩

/-- The opcode bytes of the immediates as wide as the accumulator, and as wide as the index registers (R138). -/
def accumulatorImmediates : List Byte := [0x09, 0x29, 0x49, 0x69, 0x89, 0xA9, 0xC9, 0xE9]
def indexImmediates : List Byte := [0xA0, 0xA2, 0xC0, 0xE0]

theorem fetch_of_mem_accumulatorImmediates : ∀ b ∈ accumulatorImmediates, (opRecord b).fetch = .addByteIf .mRegZero 1 := by decide

theorem fetch_of_mem_indexImmediates : ∀ b ∈ indexImmediates, (opRecord b).fetch = .addByteIf .xRegZero 1 := by decide

/-- No other record asks for a width. -/
theorem fetch_of_not_mem : ∀ b : Byte, b ∉ accumulatorImmediates → b ∉ indexImmediates →
    ∀ m x : Bool, (opRecord b).fetch.totalBytes ⟨m, x⟩ = (opRecord b).fetch.totalBytes ⟨false, false⟩ := by decide

/-! ## The decoder -/

/-- Bytes that begin with an opcode byte and the operand bytes it asks for (R130, R136). -/
theorem decode_append {w : Widths} {b : Byte} {operand : List Byte} (h : operand.length = operandBytes w b) (rest : List Byte) :
    decode w (b :: (operand ++ rest)) = .ok (assemble b operand, rest) := by
  simp [decode, ← h]

end Sys2Proof

namespace Sys2Proof.Claims
open Sys2Proof.Machine

/-- Settles O1: the operand bytes are as many as the record asks for, and the opcode's entry of the table reads them back. -/
theorem decodeOfEncode : Obligations.DecodeOfEncode := by
  intro w i rest h
  calc decode w (encode i ++ rest) = .ok (assemble i.opcode i.operand.bytes, rest) := decode_append ((wellFormed_iff w i).mp h) rest
    _ = .ok (i, rest) := by rw [(reads_assemble i).apply_bytes]

/-- Settles O2: some instruction of the opcode is well-formed, and the operand bytes are as many as its own; the lengths are by the
record's FetchByte. -/
theorem byteSelectsInstruction : Obligations.ByteSelectsInstruction := by
  refine ⟨fun w b operand h => ?_, fun ⟨m, x⟩ b => ?_⟩
  · obtain ⟨i, rfl, hi⟩ := exists_wellFormed w b
    have reads := reads_assemble i
    have length : operand.length = i.operand.bytes.length := h.trans ((wellFormed_iff w i).mp hi).symm
    have code : (assemble i.opcode operand).opcode = i.opcode := reads.opcode_apply
    have bytes : (assemble i.opcode operand).operand.bytes = operand := reads.bytes_apply length
    refine ⟨assemble i.opcode operand, ?_, code, (wellFormed_iff w _).mpr (by rw [bytes, code, h]), by rw [encode, code, bytes]⟩
    simpa only [List.append_nil] using decode_append h []
  · change _ = if b ∈ accumulatorImmediates then _ else if b ∈ indexImmediates then _ else _
    unfold totalFetchBytes operandBytes
    split
    · rw [fetch_of_mem_accumulatorImmediates b ‹_›]
      cases m <;> rfl
    · split
      · rw [fetch_of_mem_indexImmediates b ‹_›]
        cases x <;> rfl
      · rw [fetch_of_not_mem b ‹_› ‹_› m x]

/-- Settles O3: each list of bytes is the encoding of its instruction. -/
theorem specWordsDecode : Obligations.SpecWordsDecode :=
  ⟨decodeOfEncode _ (.ldaImm (.byte 0x80)) [] rfl, decodeOfEncode _ (.ldxImm (.word 0x1FFF)) [] rfl,
    decodeOfEncode _ (.staAbs 0x2000) [] rfl, decodeOfEncode _ (.jmlLong 0xC08000) [] rfl,
    decodeOfEncode _ (.mvn 0x7E 0x7F) [] rfl, decodeOfEncode _ (.brk 0xEA) [] rfl⟩

end Sys2Proof.Claims
end

section
/-! PROOFS. The cycle counter (R150 to R152): the count of an instruction, and that every form of instruction charges it. -/

namespace Sys2Proof.Machine

/-! ## The count of an instruction -/

/-- The count of R150 with the page crossing, the condition and the target of the instruction itself. -/
def instrCycles (i : Instr) (s : State) : Nat :=
  totalCycles s.params s.cpu (opRecord i.opcode) (resolve i.operand s).pageCross (Claims.branchCondition i s.cpu.p)
    (offsetOf (resolve i.operand s).ea.addr) (nextPc i.opcode s.cpu)

/-- Where no branch is taken the target does not count. -/
theorem totalCycles_not_taken (p : Params) (c : Cpu) (r : OpRecord) (pc : Bool) (tg tg' next : Word) :
    totalCycles p c r pc false tg next = totalCycles p c r pc false tg' next := by simp [totalCycles]

/-- Where the record has no option for it a page crossing does not count. -/
theorem totalCycles_of_no_pageOption (p : Params) (c : Cpu) {r : OpRecord} (h : .add1CycleIfPageBoundaryOrXRegZero ∉ r.options)
    (pc pc' tk : Bool) (tg next : Word) : totalCycles p c r pc tk tg next = totalCycles p c r pc' tk tg next := by
  simp [totalCycles, cycleTerm, h]

/-- The mnemonics whose records have the option of a page crossing. -/
def pageCrossMnemonics : List Mnemonic := [.lda, .ldx, .ldy, .adc, .sbc, .cmp, .and, .ora, .eor, .bit]

theorem mnemonic_of_pageOption : ∀ b : Byte, .add1CycleIfPageBoundaryOrXRegZero ∈ (opRecord b).options →
    (opRecord b).mnemonic ∈ pageCrossMnemonics := by decide

theorem no_pageOption_of_mnemonic {i : Instr} (h : i.mnemonic ∉ pageCrossMnemonics) :
    .add1CycleIfPageBoundaryOrXRegZero ∉ (opRecord i.opcode).options := fun k => h (mnemonic_of_pageOption _ k)

/-- Those mnemonics are among the ones of several addressing modes. -/
theorem not_pageCross_of_perform_eq_none {m : Mnemonic} {op : Byte} {o : Operand} {s : State} (h : perform m op o s = none) :
    m ∉ pageCrossMnemonics := by
  cases m
  case lda | ldx | ldy | adc | sbc | cmp | and | ora | eor | bit => cases h
  all_goals decide

/-- Those are no branches. -/
theorem branchCondition_of_perform {i : Instr} {s t : State} (h : perform i.mnemonic i.opcode i.operand s = some t) (p : Status) :
    Claims.branchCondition i p = false := by
  cases i
  case bcc | bcs | beq | bne | bmi | bpl | bvc | bvs | bra =>
    dsimp only [Instr.mnemonic, Instr.opcode] at h
    cases h
  all_goals rfl

/-! ## What leaves the counter alone -/

theorem State.MovesTo.cycles_eq {s t : State} (h : s.MovesTo t) : t.cycles = s.cycles := by
  obtain ⟨_, _, _, rfl, _⟩ := h; rfl

theorem State.addTo_cycles (w : Width) (sub : Bool) (m : Word) (s : State) : (s.addTo w sub m).cycles = s.cycles := by
  unfold State.addTo
  split <;> rfl

theorem rmw_cycles (o : Operand) (w : Width) (f : Word → Word) (s : State) : (rmw o w f s).st.cycles = s.cycles := by
  by_cases ho : o = .accumulator
  · subst ho
    rfl
  · exact (rmw_accessesTo o w f s ho).movesTo.cycles_eq

/-! ## What each form charges -/

/-- `t` comes from `s` by an instruction of opcode `op` that branches nowhere, charged with `pageCross` as R152 has it. -/
def State.Charged (op : Byte) (pageCross : Bool) (s t : State) : Prop :=
  t.cycles = s.cycles + totalCycles s.params s.cpu (opRecord op) pageCross false 0 (nextPc op s.cpu)

section
variable {op : Byte} {pc : Bool} {s t : State}

theorem State.charge_charged (tg : Word) (h : t.cycles = s.cycles) : s.Charged op pc (State.charge op pc false tg s t) := by
  unfold State.Charged
  rw [← h, totalCycles_not_taken _ _ _ _ 0 tg]
  rfl

theorem State.retire_charged (h : t.cycles = s.cycles) : s.Charged op pc (State.retire op pc s t) := State.charge_charged 0 h

theorem State.retireAt_charged {tg : Word} (h : t.cycles = s.cycles) : s.Charged op false (State.retireAt op tg s t) :=
  State.charge_charged tg h

theorem State.retireFar_charged {tg : Addr} (h : t.cycles = s.cycles) : s.Charged op false (State.retireFar op tg s t) :=
  State.charge_charged (offsetOf tg) h

theorem impliedInstr_charged {f : Cpu → Cpu} : s.Charged op false (impliedInstr op f s) := State.retire_charged rfl

/-- An operand read reports the crossing of its mode; an immediate crosses none. -/
theorem readOperand_pageCross (o : Operand) (w : Width) (s : State) : (readOperand o w s).pageCross = (resolve o s).pageCross := by
  cases o
  case immediate imm => exact (bne_self_eq_false _).symm
  all_goals rfl

theorem readInstr_charged {o : Operand} {w : Width} {f : Word → State → State}
    (hf : ∀ m (t : State), (f m t).cycles = t.cycles) : s.Charged op (resolve o s).pageCross (readInstr op o w f s) := by
  rw [← readOperand_pageCross o w s]
  exact State.retire_charged ((hf _ _).trans (readOperand_readsTo o w s).movesTo.cycles_eq)

theorem storeInstr_charged {o : Operand} {w : Width} {v : Word} : s.Charged op false (storeInstr op o w v s) :=
  State.retire_charged (storeOperand_accessesTo o w v s).movesTo.cycles_eq

theorem rmwInstr_charged {o : Operand} {w : Width} {f : Word → Word} {g : Word → Word → Cpu → Cpu} :
    s.Charged op false (rmwInstr op o w f g s) := State.retire_charged (rmw_cycles o w f s)

theorem stackInstr_charged {f : Bool → State → State} (hf : ∀ nw, (f nw s).cycles = s.cycles) :
    s.Charged op false (stackInstr op f s) := State.retire_charged (hf _)

/-- The pulls, each a value of a width and registers written from it. -/
theorem pullInstr_charged {w : Width} {f : Word → Cpu → Cpu} : s.Charged op false (stackInstr op (pullThen w f) s) :=
  stackInstr_charged fun nw => (s.pullW_movesTo nw w).cycles_eq

theorem softwareInterrupt_charged {kind : VectorKind} : s.Charged op false (softwareInterrupt op kind s) :=
  State.charge_charged 0 (s.enterException_movesTo _ _ _ _).cycles_eq

theorem blockMove_charged {dst src : Byte} {step : Word} : s.Charged op false (blockMove op dst src step s) :=
  State.charge_charged 0 rfl

end

/-- The mnemonics of several addressing modes: those with a page crossing in their records report their operand's. -/
theorem perform_charged {m : Mnemonic} {op : Byte} {o : Operand} {s t : State} (h : perform m op o s = some t) :
    ∃ pc, s.Charged op pc t ∧ (m ∈ pageCrossMnemonics → pc = (resolve o s).pageCross) := by
  cases m <;> cases h
  case lda | ldx | ldy | cmp | cpx | cpy | and | ora | eor => exact ⟨_, readInstr_charged fun _ _ => rfl, fun _ => rfl⟩
  case adc | sbc => exact ⟨_, readInstr_charged fun _ t => t.addTo_cycles _ _ _, fun _ => rfl⟩
  case bit =>
    refine ⟨_, ?_, fun _ => rfl⟩
    unfold bitOf
    split <;> exact readInstr_charged fun _ _ => rfl
  case sta | stx | sty | stz => exact ⟨_, storeInstr_charged, fun k => absurd k (by decide)⟩
  case tsb | trb | inc | dec | asl | lsr | rol | ror => exact ⟨_, rmwInstr_charged, fun k => absurd k (by decide)⟩

/-! ## Every instruction charges its count -/

theorem cycles_of_charged {i : Instr} {pc : Bool} {s t : State} (h : s.Charged i.opcode pc t)
    (page : i.mnemonic ∈ pageCrossMnemonics → pc = (resolve i.operand s).pageCross)
    (branch : Claims.branchCondition i s.cpu.p = false) : t.cycles = s.cycles + instrCycles i s := by
  rw [h, instrCycles, branch, totalCycles_not_taken _ _ _ _ 0 (offsetOf (resolve i.operand s).ea.addr)]
  by_cases hm : i.mnemonic ∈ pageCrossMnemonics
  · rw [page hm]
  · rw [totalCycles_of_no_pageOption _ _ (no_pageOption_of_mnemonic hm) pc (resolve i.operand s).pageCross]

theorem offsetOf_addr24 (bank : Byte) (off : Word) : offsetOf (addr24 bank off) = off := BitVec.setWidth_append_eq_right

theorem branch_cycles {i : Instr} {op rel : Byte} {taken : Bool} {s : State} (hop : i.opcode = op) (ho : i.operand = .relative rel)
    (hb : Claims.branchCondition i s.cpu.p = taken) : (branch op rel taken s).cycles = s.cycles + instrCycles i s := by
  have page : (resolve (.relative rel) s).pageCross = false := bne_self_eq_false _
  have target : offsetOf (resolve (.relative rel) s).ea.addr = branchTarget rel s.cpu := offsetOf_addr24 _ _
  rw [instrCycles, hop, ho, hb, page, target]
  rfl

theorem exec_cycles (i : Instr) (s : State) : ∃ t, exec i s = .next t ∧ t.cycles = s.cycles + instrCycles i s := by
  cases hp : perform i.mnemonic i.opcode i.operand s with
  | some t =>
    obtain ⟨pc, charged, page⟩ := perform_charged hp
    exact ⟨t, exec_of_perform i s t hp, cycles_of_charged charged page (branchCondition_of_perform hp _)⟩
  | none =>
    have page : i.mnemonic ∈ pageCrossMnemonics → false = (resolve i.operand s).pageCross := fun k =>
      absurd k (not_pageCross_of_perform_eq_none hp)
    cases i
    case bcc | bcs | beq | bne | bmi | bpl | bvc | bvs | bra => exact ⟨_, rfl, branch_cycles rfl rfl rfl⟩
    -- registers only
    case clc | cld | clv | sec | sed | xce | nop | wdm | tax | tay | txa | tya | txy | tyx | tsx | txs | tcs | tsc | tcd | tdc
        | xba | inx | iny | dex | dey | cli | sei | rep | sep | wai | stp =>
      exact ⟨_, rfl, cycles_of_charged impliedInstr_charged page rfl⟩
    -- jumps, calls and returns
    case brl | jmpAbs | jmpAbsInd | jmpAbsIndX | jsrAbs | jsrAbsIndX | rts =>
      exact ⟨_, rfl, cycles_of_charged (State.retireAt_charged rfl) page rfl⟩
    case jmlLong | jmlAbsIndLong | jsl | rtl => exact ⟨_, rfl, cycles_of_charged (State.retireFar_charged rfl) page rfl⟩
    -- the stack
    case pha | phx | phy =>
      exact ⟨_, rfl, cycles_of_charged (stackInstr_charged fun nw => (s.pushW_movesTo nw _ _).cycles_eq) page rfl⟩
    case php | phb | phk | phd | pea | pei | per => exact ⟨_, rfl, cycles_of_charged (stackInstr_charged fun _ => rfl) page rfl⟩
    case pla | plx | ply | plb | pld | plp => exact ⟨_, rfl, cycles_of_charged pullInstr_charged page rfl⟩
    -- exceptions and block moves
    case brk | cop => exact ⟨_, rfl, cycles_of_charged softwareInterrupt_charged page rfl⟩
    case rti =>
      exact ⟨_, rfl, cycles_of_charged (State.charge_charged 0 (s.returnFromException_movesTo _).cycles_eq) page rfl⟩
    case mvn | mvp => exact ⟨_, rfl, cycles_of_charged blockMove_charged page rfl⟩
    -- the mnemonics of several addressing modes are not among these
    all_goals
      dsimp only [Instr.mnemonic, Instr.opcode] at hp
      cases hp

/-! ## The count in numbers -/

theorem ne_zero_iff (d : Word) : (d != 0) = decide (d.toNat ≠ 0) := by
  rw [Bool.eq_iff_iff, bne_iff_ne, decide_eq_true_iff, ne_eq, ← BitVec.toNat_inj]
  rfl

theorem lowByte_ne_zero_iff (d : Word) : (d &&& 0x00FF != 0) = decide (d.toNat % 256 ≠ 0) := by
  have low : (d &&& 0x00FF).toNat = d.toNat % 256 := Nat.and_two_pow_sub_one_eq_mod d.toNat 8
  rw [ne_zero_iff, low]

theorem page_ne {n : Nat} (v w : BitVec n) : (v >>> 8 != w >>> 8) = decide (v.toNat / 256 ≠ w.toNat / 256) := by
  rw [Bool.eq_iff_iff, bne_iff_ne, decide_eq_true_iff, ne_eq, ← BitVec.toNat_inj]
  simp [Nat.shiftRight_eq_div_pow]

end Sys2Proof.Machine

namespace Sys2Proof.Claims
open Sys2Proof.Machine

/-- Settles O45: each instruction charges the count of R150, whose terms are those of the statement. -/
theorem cycleCount : Obligations.CycleCount := by
  intro i s c rec_ r add direct pageCross taken next
  obtain ⟨t, ht, cycles⟩ := exec_cycles i s
  refine ⟨t, ht, ?_⟩
  have term : ∀ o n cond, cycleTerm rec_.options o n cond = add o n cond := by
    intro o n cond
    simp [cycleTerm, add, optionCycles]
  have direct_eq : dpTest s.params c.d = direct := by
    cases h : s.params.dpPenaltyTest with
    | wholeD => simp only [direct, dpTest, h, ne_zero_iff]
    | lowByte => simp only [direct, dpTest, h, lowByte_ne_zero_iff]
  have page_eq : r.pageCross = pageCross := page_ne _ _
  have next_eq : (nextPc i.opcode c).toNat = next := by
    simp [nextPc, next]
  have target_eq : (offsetOf r.ea.addr >>> 8 != nextPc i.opcode c >>> 8) = decide (r.ea.addr.toNat % 65536 / 256 ≠ next / 256) := by
    rw [page_ne, next_eq, toNat_offsetOf]
  rw [cycles]
  change s.cycles + totalCycles s.params c rec_ r.pageCross (branchCondition i c.p) (offsetOf r.ea.addr) (nextPc i.opcode c) = _
  simp only [totalCycles, term, direct_eq, page_eq, target_eq, Nat.add_assoc]
  rfl

end Sys2Proof.Claims
end

section
/-! PROOFS. A step of a machine with a cartridge completes (R140, R410, R427, R434), and at an ordinary boundary it is exec of the
instruction that the bytes at PB:PC decode to (R134, R136, R417). -/

namespace Sys2Proof.Machine

/-- Under `DRAW` an instruction's step is not looked at for unwritten reads. -/
theorem faultUnwritten_exec_draw (i : Instr) {s : State} (h : s.params.uninitRead = .draw) :
    faultUnwritten (exec i s) = exec i s := by
  obtain ⟨t, ht, k⟩ := exec_evolvesTo i s
  rw [ht, faultUnwritten_draw (k.params ▸ h)]

theorem State.executeNext_draw {s : State} (h : s.params.uninitRead = .draw) : s.executeNext = exec s.fetch.1 s.fetch.2 := by
  have fetched : s.fetch.2.params.uninitRead = .draw := s.fetch_readsTo.params_eq ▸ h
  rw [State.executeNext, State.noteInstr_draw _ fetched]

theorem State.fetchBytes_length (bank : Byte) (off : Word) (n : Nat) (s : State) : (s.fetchBytes bank off n).1.length = n := by
  induction n generalizing off s with
  | zero => rfl
  | succ n ih => exact congrArg (· + 1) (ih (off + 1) _)

/-- The instruction fetched is the one its bytes decode to (R136). -/
theorem State.fetch_eq_of_decode {s : State} {i : Instr}
    (h : let op := s.read8 (addr24 s.cpu.pb s.cpu.pc)
      let operand := State.fetchBytes s.cpu.pb (s.cpu.pc + 1) (operandBytes s.cpu.widths op.1) op.2
      decode s.cpu.widths (op.1 :: operand.1) = .ok (i, [])) : s.fetch.1 = i := by
  have decoded := decode_append (State.fetchBytes_length s.cpu.pb (s.cpu.pc + 1)
    (operandBytes s.cpu.widths (s.read8 (addr24 s.cpu.pb s.cpu.pc)).1) (s.read8 (addr24 s.cpu.pb s.cpu.pc)).2) []
  rw [List.append_nil] at decoded
  cases decoded.symm.trans h
  rfl

end Sys2Proof.Machine

namespace Sys2Proof.Claims
open Sys2Proof.Machine

/-- The agent, the input and the latches leave registers and cycles alone (R77, R417). -/
theorem latched_cpu (s : State) : (latched s).cpu = s.cpu := by
  obtain ⟨b, m, h⟩ := atBoundary_eq s
  unfold latched
  rw [h]

theorem latched_cycles (s : State) : (latched s).cycles = s.cycles := by
  obtain ⟨b, m, h⟩ := atBoundary_eq s
  unfold latched
  rw [h]

/-- Settles O46: exec and every boundary evolve the state, and only a machine with a cartridge has boundaries. -/
theorem everyInstructionCompletes : Obligations.EveryInstructionCompletes := by
  refine ⟨fun i s => ?_, fun s hc hp => ?_, fun s hc => ?_⟩
  · obtain ⟨t, ht, _⟩ := exec_evolvesTo i s
    exact ⟨t, ht⟩
  · obtain ⟨t, ht, k⟩ := step_evolvesTo hc
    exact ⟨t, ht.trans (faultUnwritten_draw (k.params ▸ hp))⟩
  · simp [step, State.boundary, hc]

/-- Settles O50: the step fetches and executes from `latched`, where the instruction fetched is the one decoded. -/
theorem stepRunsDecodedInstruction : Obligations.StepRunsDecodedInstruction := by
  intro s i quiet hp u op rest decoded _
  have draw : u.params.uninitRead = .draw := (congrArg Params.uninitRead (latched_params s)).trans hp
  have fetched : u.fetch.2.params.uninitRead = .draw := u.fetch_readsTo.params_eq ▸ draw
  refine ⟨latched_cpu s, latched_cycles s, ?_⟩
  calc step s = faultUnwritten u.executeNext := step_of_quiet quiet
    _ = exec u.fetch.1 u.fetch.2 := by rw [State.executeNext_draw draw, faultUnwritten_exec_draw _ fetched]
    _ = exec i rest.2 := by rw [State.fetch_eq_of_decode decoded]; rfl

end Sys2Proof.Claims
end

section
/-! PROOFS. Effective addresses as numbers: the places of the direct page, the pointers, the data bank, the byte after an effective
address and the operand read there (R170 to R192, R197). -/

namespace Sys2Proof.Machine

/-! ## Words and addresses as numbers -/

theorem ofNat_toNat_self {n : Nat} (v : BitVec n) : BitVec.ofNat n v.toNat = v :=
  (BitVec.ofNat_toNat n v).trans (BitVec.setWidth_eq v)

theorem toNat_byteWord (v : Byte) : (byteWord v).toNat = v.toNat := BitVec.toNat_setWidth_of_le (by decide)

theorem byteWord_eq_ofNat (v : Byte) : byteWord v = BitVec.ofNat 16 v.toNat := by
  rw [← toNat_byteWord, ofNat_toNat_self]

/-- A direct-page operand plus an index, as a sum of numbers. -/
theorem byteWord_add (v : Byte) (index : Word) : byteWord v + index = BitVec.ofNat 16 (v.toNat + index.toNat) := by
  rw [BitVec.ofNat_add, ← byteWord_eq_ofNat, ofNat_toNat_self]

theorem toNat_wordOf (hi lo : Byte) : (wordOf hi lo).toNat = lo.toNat + 256 * hi.toNat := by
  rw [wordOf_eq_ofNat, BitVec.toNat_ofNat]
  omega

theorem wordLo_eq_ofNat (v : Word) : wordLo v = BitVec.ofNat 8 v.toNat := (BitVec.ofNat_toNat 8 v).symm

theorem wordHi_eq_ofNat (v : Word) : wordHi v = BitVec.ofNat 8 (v.toNat / 256) := by
  rw [toNat_div_eq_wordHi, ofNat_toNat_self]

theorem offsetOf_eq_ofNat (a : Addr) : offsetOf a = BitVec.ofNat 16 a.toNat := (BitVec.ofNat_toNat 16 a).symm

theorem bankOf_eq_ofNat (a : Addr) : bankOf a = BitVec.ofNat 8 (a.toNat / 65536) := by
  rw [← toNat_bankOf, ofNat_toNat_self]

theorem toNat_addr24 (bank : Byte) (off : Word) : (addr24 bank off).toNat = bank.toNat * 65536 + off.toNat := by
  rw [addr24, BitVec.toNat_append, ← Nat.shiftLeft_add_eq_or_of_lt off.isLt, Nat.shiftLeft_eq]

theorem toNat_addr24_zero (off : Word) : (addr24 0 off).toNat = off.toNat := (toNat_addr24 0 off).trans (Nat.zero_add _)

/-- Within a bank only the low 16 bits of an offset count. -/
theorem addr24_ofNat (bank : Byte) (n : Nat) :
    addr24 bank (BitVec.ofNat 16 n) = BitVec.ofNat 24 (bank.toNat * 65536 + n % 65536) := by
  have low : n % 65536 = (BitVec.ofNat 16 n).toNat := (BitVec.toNat_ofNat n 16).symm
  rw [low, ← toNat_addr24, ofNat_toNat_self]

theorem addr24_zero_ofNat (n : Nat) : addr24 0 (BitVec.ofNat 16 n) = BitVec.ofNat 24 (n % 65536) :=
  (addr24_ofNat 0 n).trans (congrArg (BitVec.ofNat 24) (Nat.zero_add _))

theorem toNat_trunc (w : Width) (v : Word) : (w.trunc v).toNat = v.toNat % Claims.size w := by
  cases w with
  | w8 => exact Nat.and_two_pow_sub_one_eq_mod v.toNat 8
  | w16 => exact Nat.and_two_pow_sub_one_eq_mod v.toNat 16

/-- The high byte of one word over the low byte of another. -/
theorem toNat_replaceLowByte (v u : Word) : ((v &&& 0xFF00) ||| (u &&& 0x00FF)).toNat = v.toNat / 256 * 256 + u.toNat % 256 := by
  have high : (v &&& 0xFF00).toNat = 2 ^ 8 * (v.toNat / 2 ^ 8) := by
    rw [show (0xFF00 : Word) = BitVec.allOnes 16 <<< 8 from rfl, ← BitVec.shiftLeft_ushiftRight, BitVec.toNat_shiftLeft,
      BitVec.toNat_ushiftRight, Nat.shiftRight_eq_div_pow, Nat.shiftLeft_eq]
    omega
  have low : (u &&& 0x00FF).toNat = u.toNat % 2 ^ 8 := Nat.and_two_pow_sub_one_eq_mod u.toNat 8
  rw [BitVec.toNat_or, high, low, ← Nat.two_pow_add_eq_or_of_lt (by omega)]
  omega

/-! ## The direct page (R175) -/

/-- The offset depends on the addend modulo 2^16, so the addend may be a sum of numbers. -/
theorem Cpu.toNat_dpOffset (c : Cpu) (k : Nat) (legacy : Bool) :
    (c.dpOffset (BitVec.ofNat 16 k) legacy).toNat = Claims.directOffset c k legacy := by
  have page : (c.d &&& 0x00FF == 0) = decide (c.d.toNat % 256 = 0) := by
    simpa [bne] using lowByte_ne_zero_iff c.d
  have sameByte : k % 65536 % 256 = k % 256 := by omega
  rw [Cpu.dpOffset, Claims.directOffset, page, apply_ite BitVec.toNat, toNat_replaceLowByte, BitVec.toNat_add,
    BitVec.toNat_ofNat, Nat.add_mod_mod, sameByte]
  simp only [Bool.and_eq_true, decide_eq_true_eq, and_assoc]

theorem Cpu.dpAddr_ofNat (c : Cpu) (k : Nat) (legacy : Bool) :
    c.dpAddr (BitVec.ofNat 16 k) legacy = BitVec.ofNat 24 (Claims.directOffset c k legacy) := by
  refine BitVec.eq_of_toNat_eq ?_
  rw [Cpu.dpAddr, toNat_addr24_zero, Cpu.toNat_dpOffset, BitVec.toNat_ofNat]
  have bound : Claims.directOffset c k legacy < 65536 := c.toNat_dpOffset k legacy ▸ BitVec.isLt _
  omega

/-- An operand byte alone never leaves D's page where the page wrap is in force. -/
theorem directOffset_byte (c : Cpu) {k : Nat} (hk : k < 256) (legacy : Bool) :
    Claims.directOffset c k legacy = (c.d.toNat + k) % 65536 := by
  unfold Claims.directOffset
  split
  · omega
  · rfl

/-! ## Pointers (R179 to R183, R188 to R192) -/

theorem pointer16_eq (a0 a1 : Nat) (s : State) :
    Claims.pointer16 a0 a1 s = ((s.read16At (BitVec.ofNat 24 a0) (BitVec.ofNat 24 a1)).1.toNat,
      (s.read16At (BitVec.ofNat 24 a0) (BitVec.ofNat 24 a1)).2) :=
  congrArg (·, _) (toNat_wordOf _ _).symm

theorem pointer24_eq (a0 a1 a2 : Nat) (s : State) :
    Claims.pointer24 a0 a1 a2 s =
      ((s.read24At (BitVec.ofNat 24 a0) (BitVec.ofNat 24 a1) (BitVec.ofNat 24 a2)).1.toNat,
        (s.read24At (BitVec.ofNat 24 a0) (BitVec.ofNat 24 a1) (BitVec.ofNat 24 a2)).2) := by
  rw [Claims.pointer24, pointer16_eq, State.read24At, toNat_addr24, Nat.add_comm, Nat.mul_comm]
  rfl

theorem pointer16_direct (k : Nat) (s : State) :
    Claims.pointer16 (Claims.directOffset s.cpu k true) (Claims.directOffset s.cpu (k + 1) true) s =
      ((s.dpPointer (BitVec.ofNat 16 k)).1.toNat, (s.dpPointer (BitVec.ofNat 16 k)).2) := by
  rw [pointer16_eq, ← Cpu.dpAddr_ofNat, ← Cpu.dpAddr_ofNat, BitVec.ofNat_add]
  rfl

theorem pointer24_direct (k : Nat) (s : State) :
    Claims.pointer24 (Claims.directOffset s.cpu k false) (Claims.directOffset s.cpu (k + 1) false)
        (Claims.directOffset s.cpu (k + 2) false) s =
      ((s.dpLongPointer (BitVec.ofNat 16 k)).1.toNat, (s.dpLongPointer (BitVec.ofNat 16 k)).2) := by
  rw [pointer24_eq, ← Cpu.dpAddr_ofNat, ← Cpu.dpAddr_ofNat, ← Cpu.dpAddr_ofNat, BitVec.ofNat_add, BitVec.ofNat_add]
  rfl

/-- A pointer in a bank wraps within it (R188, R190). -/
theorem pointer16_inBank (bank : Byte) (n : Nat) (s : State) :
    Claims.pointer16 (bank.toNat * 65536 + n % 65536) (bank.toNat * 65536 + (n + 1) % 65536) s =
      ((s.readPtr bank (BitVec.ofNat 16 n)).1.toNat, (s.readPtr bank (BitVec.ofNat 16 n)).2) := by
  rw [pointer16_eq, ← addr24_ofNat, ← addr24_ofNat, BitVec.ofNat_add]
  rfl

theorem pointer16_zeroBank (n : Nat) (s : State) :
    Claims.pointer16 (n % 65536) ((n + 1) % 65536) s =
      ((s.readPtr 0 (BitVec.ofNat 16 n)).1.toNat, (s.readPtr 0 (BitVec.ofNat 16 n)).2) := by
  rw [pointer16_eq, ← addr24_zero_ofNat, ← addr24_zero_ofNat, BitVec.ofNat_add]
  rfl

/-- The pointer of JML [addr] wraps within bank 0 (R189, R311, log 20). -/
theorem pointer24_zeroBank (a : Word) (s : State) :
    Claims.pointer24 (a.toNat % 65536) ((a.toNat + 1) % 65536) ((a.toNat + 2) % 65536) s =
      ((s.read24At (addr24 0 a) (addr24 0 (a + 1)) (addr24 0 (a + 2))).1.toNat,
        (s.read24At (addr24 0 a) (addr24 0 (a + 1)) (addr24 0 (a + 2))).2) := by
  rw [pointer24_eq, ← addr24_zero_ofNat, ← addr24_zero_ofNat, ← addr24_zero_ofNat, BitVec.ofNat_add, BitVec.ofNat_add,
    ofNat_toNat_self]
  rfl

/-! ## The shapes of effective addresses (R170, R172, R185) -/

theorem dataBankIndexed_wrap (p : Params) (db : Byte) (off index : Word) :
    (dataBankIndexed p db off index).wrap = Claims.dataWrap p := by
  unfold dataBankIndexed Claims.dataWrap
  split <;> rfl

/-- A long address plus an index, modulo 2^24 (R183, R187). -/
theorem toNat_add_index (a : Addr) (index : Word) : (a + index.setWidth 24).toNat = (a.toNat + index.toNat) % 2 ^ 24 := by
  rw [BitVec.toNat_add, BitVec.toNat_setWidth_of_le (by decide)]

theorem toNat_dataBankIndexed (p : Params) (db : Byte) (off index : Word) :
    (dataBankIndexed p db off index).addr.toNat = Claims.indexedAddress p db.toNat off.toNat index.toNat := by
  unfold dataBankIndexed Claims.indexedAddress
  split
  · rw [toNat_add_index, toNat_addr24]
  · rw [toNat_addr24, BitVec.toNat_add]

theorem EA.next_eq_ofNat (ea : EA) : ea.next = BitVec.ofNat 24 (Claims.nextAddress ea) := by
  obtain ⟨a, wrap⟩ := ea
  refine BitVec.eq_of_toNat_eq ?_
  rw [BitVec.toNat_ofNat]
  cases wrap with
  | linear => exact (Nat.mod_mod _ _).symm
  | inBank =>
    have bound := a.isLt
    dsimp only [EA.next, Claims.nextAddress]
    rw [toNat_addr24, toNat_bankOf, BitVec.toNat_add, toNat_offsetOf, show (1 : Word).toNat = 1 from rfl]
    omega

/-! ## The operand of a read (R197) -/

theorem State.toNat_readEA_w16 (ea : EA) (s : State) :
    (s.readEA ea .w16).1.toNat = (s.read8 ea.addr).1.toNat + 256 * ((s.read8 ea.addr).2.read8 ea.next).1.toNat :=
  toNat_wordOf _ _

theorem State.toNat_readEA_lt (ea : EA) (w : Width) (s : State) : (s.readEA ea w).1.toNat < Claims.size w := by
  cases w with
  | w8 => exact (toNat_byteWord _).trans_lt (s.read8 ea.addr).1.isLt
  | w16 => exact (s.readEA ea .w16).1.isLt

/-- A byte is a number of either width. -/
theorem toNat_trunc_byteWord (w : Width) (v : Byte) : (w.trunc (byteWord v)).toNat = v.toNat := by
  have byte : 256 ≤ Claims.size w := by cases w <;> decide
  rw [toNat_trunc, toNat_byteWord, Nat.mod_eq_of_lt (v.isLt.trans_le byte)]

theorem size_pos (w : Width) : 0 < Claims.size w := Nat.two_pow_pos _

theorem toNat_readOperand_lt (o : Operand) (w : Width) (s : State) : (readOperand o w s).value.toNat < Claims.size w := by
  cases o
  case immediate imm => exact (toNat_trunc w (Imm.value imm)).trans_lt (Nat.mod_lt _ (size_pos w))
  all_goals exact State.toNat_readEA_lt _ w _

end Sys2Proof.Machine

namespace Sys2Proof.Claims
open Sys2Proof.Machine

/-! ## What a mode resolves to -/

/-- The direct modes without a pointer, the addend a sum of numbers (R176 to R178). -/
theorem resolvesTo_direct {o : Operand} {k : Nat} {s : State}
    (h : resolve o s = .plain (zeroBank (s.cpu.dpOffset (BitVec.ofNat 16 k) true)) s) :
    ResolvesTo o s (directOffset s.cpu k true) .inBank s := by
  rw [ResolvesTo, h]
  exact ⟨(toNat_addr24_zero _).trans (s.cpu.toNat_dpOffset k true), rfl, rfl⟩

/-- The data-bank modes without an index (R179, R181, R184). -/
theorem resolvesTo_dataBank {o : Operand} {s t : State} {off : Word}
    (h : resolve o s = .plain (dataBank s.params s.cpu.db off) t) :
    ResolvesTo o s (s.cpu.db.toNat * 65536 + off.toNat) (dataWrap s.params) t := by
  rw [ResolvesTo, h]
  exact ⟨toNat_addr24 _ _, rfl, rfl⟩

/-- The data-bank modes with an index (R180, R185, R192). -/
theorem resolvesTo_indexed {o : Operand} {s t : State} {off index : Word}
    (h : resolve o s = ⟨dataBankIndexed s.params s.cpu.db off index, addr24 s.cpu.db off, t⟩) :
    ResolvesTo o s (indexedAddress s.params s.cpu.db.toNat off.toNat index.toNat) (dataWrap s.params) t ∧
      (resolve o s).base.toNat = s.cpu.db.toNat * 65536 + off.toNat := by
  rw [ResolvesTo, h]
  exact ⟨⟨toNat_dataBankIndexed _ _ _ _, dataBankIndexed_wrap _ _ _ _, rfl⟩, toNat_addr24 _ _⟩

/-- The long modes with an index (R183, R187). -/
theorem resolvesTo_longIndexed {o : Operand} {s t : State} {a : Addr} {index : Word}
    (h : resolve o s = .plain ⟨a + index.setWidth 24, .linear⟩ t) :
    ResolvesTo o s ((a.toNat + index.toNat) % 2 ^ 24) .linear t := by
  rw [ResolvesTo, h]
  exact ⟨toNat_add_index _ _, rfl, rfl⟩

/-! ## The settled statements -/

/-- Settles O16: the pointers and offsets of the direct page as numbers, mode by mode. -/
theorem directPageModes : Obligations.DirectPageModes := by
  refine ⟨fun dp s => ?_, fun dp s => ?_, fun dp s => ?_⟩
  · rw [← directOffset_byte s.cpu dp.isLt true]
    refine ⟨resolvesTo_direct ?_, resolvesTo_direct ?_, resolvesTo_direct ?_⟩
    · rw [resolve, byteWord_eq_ofNat]
    · rw [resolve, byteWord_add]
    · rw [resolve, byteWord_add]
  · dsimp only
    rw [pointer16_direct, pointer16_direct, ← byteWord_eq_ofNat, ← byteWord_add]
    obtain ⟨indexed, base⟩ := resolvesTo_indexed (o := .directIndirectY dp) (s := s) rfl
    exact ⟨resolvesTo_dataBank rfl, indexed, base, resolvesTo_dataBank rfl⟩
  · dsimp only
    rw [Nat.add_zero, pointer24_direct, ← byteWord_eq_ofNat]
    exact ⟨⟨rfl, rfl, rfl⟩, resolvesTo_longIndexed rfl⟩

/-- Settles O17: the data bank, the long address and the stack offset as numbers, mode by mode. -/
theorem absoluteAndStackModes : Obligations.AbsoluteAndStackModes := by
  refine ⟨fun a l s => ?_, fun sr s => ?_⟩
  · obtain ⟨byX, baseX⟩ := resolvesTo_indexed (o := .absoluteX a) (s := s) rfl
    obtain ⟨byY, baseY⟩ := resolvesTo_indexed (o := .absoluteY a) (s := s) rfl
    exact ⟨resolvesTo_dataBank rfl, byX, byY, baseX, baseY, ⟨rfl, rfl, rfl⟩, resolvesTo_longIndexed rfl⟩
  · have offset : s.cpu.s + byteWord sr = BitVec.ofNat 16 (s.cpu.s.toNat + sr.toNat) := by
      rw [BitVec.ofNat_add, ← byteWord_eq_ofNat, ofNat_toNat_self]
    have place : (addr24 0 (s.cpu.s + byteWord sr)).toNat = (s.cpu.s.toNat + sr.toNat) % 65536 := by
      rw [toNat_addr24_zero, offset, BitVec.toNat_ofNat]
    dsimp only
    rw [Nat.add_zero, pointer16_zeroBank, ← offset]
    exact ⟨⟨place, rfl, rfl⟩, (resolvesTo_indexed rfl).1⟩

/-- Settles O18: the second byte lies at the next address of R170, and every number read is one of the width. -/
theorem operandAccess : Obligations.OperandAccess := by
  refine ⟨fun ea v s => ?_, fun o w s => ⟨toNat_readOperand_lt o w s, ?_⟩⟩
  · dsimp only
    rw [← EA.next_eq_ofNat, ← wordLo_eq_ofNat, ← wordHi_eq_ofNat]
    exact ⟨toNat_byteWord _, rfl, State.toNat_readEA_w16 ea s, rfl, rfl, rfl, rfl, rfl⟩
  · cases o
    case immediate imm =>
      cases imm with
      | byte v => exact ⟨toNat_trunc_byteWord w v, rfl⟩
      | word v => exact ⟨toNat_trunc w v, rfl⟩
    all_goals exact ⟨rfl, rfl⟩

end Sys2Proof.Claims
end

section
/-! PROOFS. The jumps: how an instruction that writes PC, or PB and PC, ends after its pointer reads (R309 to R311). -/

namespace Sys2Proof.Claims
open Sys2Proof.Machine

/-- The instruction reads at most its pointer and ends with the registers `c` and the bus `b`, as every jump does. -/
def JumpsTo (i : Instr) (s : State) (c : Cpu) (b : Bus) : Prop :=
  ∃ t, exec i s = .next t ∧ t.cpu = c ∧ t.bus = b ∧ MemoryKept s t ∧ Frame s t

/-- Reads change no byte of memory and leave the frame alone, whatever the registers and the count of cycles become (R116). -/
theorem kept_of_reads {s t : State} (h : s.ReadsTo t) (c : Cpu) (n : Nat) :
    MemoryKept s { t with cpu := c, cycles := n } ∧ Frame s { t with cpu := c, cycles := n } := by
  obtain ⟨_, _, _, _, rfl, _, _, draw⟩ := h
  exact ⟨fun _ => rfl, rfl, rfl, rfl, rfl, rfl, rfl, rfl, rfl, draw⟩

section
variable {i : Instr} {op : Byte} {s t : State}

theorem jumpsTo_near {target : Word} (h : exec i s = .next (State.retireAt op target s t)) (k : s.ReadsTo t) :
    JumpsTo i s { s.cpu with pc := target } t.bus :=
  ⟨_, h, congrArg (fun c : Cpu => { c with pc := target }) k.cpu_eq, rfl, kept_of_reads k _ _⟩

theorem jumpsTo_far {target : Addr} (h : exec i s = .next (State.retireFar op target s t)) (k : s.ReadsTo t) :
    JumpsTo i s { s.cpu with pb := BitVec.ofNat 8 (target.toNat / 65536), pc := BitVec.ofNat 16 target.toNat } t.bus := by
  rw [← bankOf_eq_ofNat, ← offsetOf_eq_ofNat]
  exact ⟨_, h, congrArg (fun c : Cpu => { c with pb := bankOf target, pc := offsetOf target }) k.cpu_eq, rfl,
    kept_of_reads k _ _⟩

end

/-- Settles O32: each form retires at its target after its pointer reads. -/
theorem jumps : Obligations.Jumps := by
  intro a l s
  have relative : BitVec.ofNat 16 (s.cpu.pc.toNat + 3 + a.toNat) = s.cpu.pc + 3 + a := by
    rw [BitVec.ofNat_add, BitVec.ofNat_add, ofNat_toNat_self, ofNat_toNat_self]
    rfl
  have indexed : BitVec.ofNat 16 (a.toNat + s.cpu.x.toNat) = a + s.cpu.x := by
    rw [BitVec.ofNat_add, ofNat_toNat_self, ofNat_toNat_self]
  simp only [Nat.zero_mul, Nat.zero_add, pointer16_zeroBank, pointer16_inBank, pointer24_zeroBank, relative, indexed,
    ofNat_toNat_self]
  exact ⟨jumpsTo_near rfl (.refl s), jumpsTo_near rfl (.refl s), jumpsTo_near rfl (s.readPtr_readsTo 0 a),
    jumpsTo_near rfl (s.readPtr_readsTo _ _), jumpsTo_far rfl (.refl s), jumpsTo_far rfl (s.read24At_readsTo _ _ _)⟩

end Sys2Proof.Claims
end

section
/-! PROOFS. Register and flag updates as numbers, and the three frames of the statements: an instruction on registers only, one that
reads an operand, one that stores (R22, R24, R40, R42, R136, R171, R197, R199). -/

namespace Sys2Proof.Claims
open Sys2Proof.Machine

/-! ## Numbers of a width -/

theorem low_of_lt {w : Width} {v : Word} (h : v.toNat < size w) : low w v = v.toNat := Nat.mod_eq_of_lt h

theorem low_w16 (v : Word) : low .w16 v = v.toNat := low_of_lt v.isLt

theorem low_trunc (w : Width) (v : Word) : low w (w.trunc v) = low w v := by
  rw [low, toNat_trunc, Nat.mod_mod, low]

theorem trunc_eq_ofNat (w : Width) (v : Word) : w.trunc v = BitVec.ofNat 16 (low w v) := by
  rw [low, ← toNat_trunc, ofNat_toNat_self]

/-- The top bit of a width is set from the middle of its numbers on (R40). -/
theorem msb_eq_decide (w : Width) (v : Word) : w.msb v = decide (size w / 2 ≤ low w v) := by
  have bound := v.isLt
  rw [Width.msb, BitVec.getLsbD, Nat.testBit_eq_decide_div_mod_eq, decide_eq_decide]
  cases w with
  | w8 => exact (by omega : v.toNat / 128 % 2 = 1 ↔ 128 ≤ v.toNat % 256)
  | w16 => exact (by omega : v.toNat / 32768 % 2 = 1 ↔ 32768 ≤ v.toNat % 65536)

theorem trunc_eq_zero (w : Width) (v : Word) : (w.trunc v == 0) = decide (low w v = 0) := by
  rw [Bool.eq_iff_iff, beq_iff_eq, decide_eq_true_iff, ← BitVec.toNat_inj, toNat_trunc]
  rfl

/-! ## Updates of the register file -/

theorem setNZ_eq_withNZ (c : Cpu) (v : Word) (w : Width) : c.setNZ v w = { c with p := withNZ c.p w (low w v) } := by
  rw [Cpu.setNZ, msb_eq_decide, trunc_eq_zero, withNZ]

theorem setA_eq_writtenA (c : Cpu) (w : Width) (v : Word) : c.setA w v = { c with a := writtenA w c.a (low w v) } := by
  cases w with
  | w8 =>
    rw [Cpu.setA, ← ofNat_toNat_self ((c.a &&& 0xFF00) ||| (v &&& 0x00FF)), toNat_replaceLowByte]
    rfl
  | w16 => rw [Cpu.setA, writtenA, low_w16, ofNat_toNat_self]

theorem loadA_eq (c : Cpu) (w : Width) (v : Word) :
    c.loadA w v = { c with a := writtenA w c.a (low w v), p := withNZ c.p w (low w v) } := by
  rw [Cpu.loadA, setNZ_eq_withNZ, setA_eq_writtenA]

theorem loadX_eq (c : Cpu) (w : Width) (v : Word) :
    c.loadX w v = { c with x := BitVec.ofNat 16 (low w v), p := withNZ c.p w (low w v) } := by
  rw [Cpu.loadX, setNZ_eq_withNZ, Cpu.setX, trunc_eq_ofNat]

theorem loadY_eq (c : Cpu) (w : Width) (v : Word) :
    c.loadY w v = { c with y := BitVec.ofNat 16 (low w v), p := withNZ c.p w (low w v) } := by
  rw [Cpu.loadY, setNZ_eq_withNZ, Cpu.setY, trunc_eq_ofNat]

theorem toNat_pageOne (v : Word) : (pageOne v).toNat = 256 + v.toNat % 256 := by
  have low : (v &&& 0x00FF).toNat = v.toNat % 2 ^ 8 := Nat.and_two_pow_sub_one_eq_mod v.toNat 8
  rw [pageOne, BitVec.toNat_or, low]
  exact (Nat.two_pow_add_eq_or_of_lt (i := 8) (Nat.mod_lt _ (by decide)) 1).symm

/-- S after a transfer into it, in either mode (R42). -/
theorem setS_eq (c : Cpu) (v : Word) :
    c.setS v = { c with s := BitVec.ofNat 16 (if c.p.e then 256 + v.toNat % 256 else v.toNat) } := by
  rw [Cpu.setS, apply_ite (BitVec.ofNat 16), ← toNat_pageOne, ofNat_toNat_self, ofNat_toNat_self]

theorem advance_eq (i : Instr) (s : State) (c : Cpu) : advance i s c = { c with pc := nextPc i.opcode s.cpu } := by
  rw [advance, BitVec.ofNat_add, ofNat_toNat_self, nextPc]

/-- An instruction that does not write PC ends at the next one (R136). -/
theorem retire_cpu_eq_advance (i : Instr) (pageCross : Bool) (s : State) {t : State} {c : Cpu} (h : t.cpu = c) :
    (State.retire i.opcode pageCross s t).cpu = advance i s c := by
  rw [advance_eq, State.retire_cpu, h]

/-! ## Memory and the frame -/

theorem MemoryKept.of_bus {s t : State} (h : t.bus = s.bus) : MemoryKept s t := fun c => congrArg (Bus.cellByte · c) h

theorem MemoryKept.trans {s t u : State} (h : MemoryKept s t) (k : MemoryKept t u) : MemoryKept s u :=
  fun c => (k c).trans (h c)

/-- No read changes a byte of memory, and neither does a later change of anything but the bus (R116). -/
theorem MemoryKept.of_reads {s t u : State} (h : s.ReadsTo t) (hb : u.bus = t.bus) : MemoryKept s u :=
  MemoryKept.trans h.cellByte_eq (.of_bus hb)

/-- Accesses leave the frame alone, whatever the registers and the count of cycles become. -/
theorem frame_of_accesses {s t : State} (h : s.AccessesTo t) (c : Cpu) (n : Nat) :
    Frame s { t with cpu := c, cycles := n } := by
  obtain ⟨_, _, rfl, cart, _, _, _, draw⟩ := h
  exact ⟨rfl, rfl, rfl, rfl, rfl, rfl, rfl, cart, draw⟩

/-! ## The bytes of a store -/

theorem writeEA_bus (ea : EA) (w : Width) (v : Word) (s : State) :
    (s.writeEA ea w v).bus = storeLowFirst ea w v.toNat s.bus := by
  cases w with
  | w8 => exact congrArg (s.bus.write ea.addr) (wordLo_eq_ofNat v)
  | w16 => rw [storeLowFirst, ← wordLo_eq_ofNat, ← wordHi_eq_ofNat]; rfl

/-- A store changes no byte outside its cells. -/
theorem storeLowFirst_cellByte {ea : EA} {w : Width} {v : Nat} {b : Bus} {c : CellId} (h : c ∉ cellsLowFirst ea w v b) :
    (storeLowFirst ea w v b).cellByte c = b.cellByte c := by
  cases w with
  | w8 => exact Bus.write_cellByte_other _ _ _ _ fun e => h (Option.mem_toList.mpr e)
  | w16 =>
    obtain ⟨first, second⟩ := not_or.mp (mt List.mem_append.mpr h)
    exact (Bus.write_cellByte_other _ _ _ _ fun e => second (Option.mem_toList.mpr e)).trans
      (Bus.write_cellByte_other _ _ _ _ fun e => first (Option.mem_toList.mpr e))

/-! ## The shared forms of the instructions -/

section
variable {i : Instr} {s : State} {w : Width}

theorem registersOnly_of_implied {f : Cpu → Cpu} {c : Cpu} (h : exec i s = .next (impliedInstr i.opcode f s))
    (hf : f s.cpu = c) : RegistersOnly i s c :=
  ⟨_, h, retire_cpu_eq_advance i _ s hf, rfl, frame_of_accesses (.refl s) _ _⟩

/-- It is enough that the registers written from any word are those written from its number of the width. -/
theorem readsOperand_of_readInstr {g : Word → Cpu → Cpu} {regs : Nat → Cpu}
    (h : exec i s = .next (readInstr i.opcode i.operand w (fun m t => t.mapCpu (g m)) s))
    (hg : ∀ m, g m s.cpu = regs (low w m)) : ReadsOperand i s w regs := by
  have reads := readOperand_readsTo i.operand w s
  obtain ⟨memory, frame⟩ := kept_of_reads reads _ _
  refine ⟨_, h, retire_cpu_eq_advance i _ s ?_, rfl, memory, frame⟩
  rw [State.mapCpu_cpu, reads.cpu_eq, hg, low_of_lt (toNat_readOperand_lt i.operand w s)]

theorem storesAt_of_storeInstr {v : Word} (h : exec i s = .next (storeInstr i.opcode i.operand w v s)) :
    StoresAt i s w v.toNat := by
  have stored := storeOperand_accessesTo i.operand w v s
  have bus : (storeOperand i.operand w v s).bus =
      storeLowFirst (resolve i.operand s).ea w v.toNat (resolve i.operand s).st.bus := writeEA_bus _ _ _ _
  refine ⟨_, h, retire_cpu_eq_advance i _ s stored.cpu_eq, bus, fun c hc => ?_, frame_of_accesses stored _ _⟩
  calc (storeOperand i.operand w v s).bus.cellByte c
    _ = (resolve i.operand s).st.bus.cellByte c := by rw [bus, storeLowFirst_cellByte hc]
    _ = s.bus.cellByte c := (resolve_readsTo i.operand s).cellByte_eq c

end

end Sys2Proof.Claims
end

section
/-! PROOFS. Loads, stores and register transfers (R210 to R229), and that no instruction but those that store changes a byte of memory
(R116, R230). -/

namespace Sys2Proof.Claims
open Sys2Proof.Machine

/-! ## Loads and stores -/

/-- Settles O19: each form reads its operand and loads its register from it. -/
theorem loads : Obligations.Loads := fun i s =>
  ⟨fun h => readsOperand_of_readInstr (exec_lda i s h) (loadA_eq s.cpu _),
    fun h => readsOperand_of_readInstr (exec_ldx i s h) (loadX_eq s.cpu _),
    fun h => readsOperand_of_readInstr (exec_ldy i s h) (loadY_eq s.cpu _)⟩

/-- The store of a register's number of a width. -/
theorem storesAt_low {i : Instr} {s : State} {w : Width} {v : Word}
    (h : exec i s = .next (storeInstr i.opcode i.operand w (w.trunc v) s)) : StoresAt i s w (low w v) := by
  rw [low, ← toNat_trunc]
  exact storesAt_of_storeInstr h

/-- Settles O20: each form stores its register's number of the width, STZ the word zero. -/
theorem stores : Obligations.Stores := fun i s =>
  ⟨fun h => storesAt_low (exec_sta i s h), fun h => storesAt_low (exec_stx i s h), fun h => storesAt_low (exec_sty i s h),
    fun h => storesAt_of_storeInstr (exec_stz i s h)⟩

/-! ## Transfers -/

/-- A sixteen-bit result of TSC, TCD and TDC sets the flags of its own number, whatever M (R226 to R228). -/
theorem setNZ_w16 (c : Cpu) (v : Word) : c.setNZ v .w16 = { c with p := withNZ c.p .w16 v.toNat } := by
  rw [setNZ_eq_withNZ, low_w16]

theorem swapBytes_eq_ofNat (v : Word) : swapBytes v = BitVec.ofNat 16 (v.toNat % 256 * 256 + v.toNat / 256) := by
  rw [swapBytes, wordOf_eq_ofNat, ← toNat_div_eq_wordHi, wordLo_eq_ofNat, BitVec.toNat_ofNat, Nat.add_comm, Nat.mul_comm]

theorem low_swapBytes (v : Word) : low .w8 (swapBytes v) = v.toNat / 256 := by
  have bound := v.isLt
  rw [low, swapBytes_eq_ofNat, BitVec.toNat_ofNat, show size .w8 = 256 from rfl]
  omega

/-- Settles O21: each transfer is an update of registers only, as numbers. -/
theorem transfers : Obligations.Transfers := by
  refine ⟨fun s => ?_, fun s => ?_⟩
  · have toA (v : Word) := loadA_eq s.cpu s.cpu.mw (s.cpu.mw.trunc v)
    have toX (v : Word) := loadX_eq s.cpu s.cpu.xw (s.cpu.xw.trunc v)
    have toY (v : Word) := loadY_eq s.cpu s.cpu.xw (s.cpu.xw.trunc v)
    simp only [low_trunc] at toA toX toY
    exact ⟨registersOnly_of_implied rfl (toX _), registersOnly_of_implied rfl (toY _), registersOnly_of_implied rfl (toA _),
      registersOnly_of_implied rfl (toA _), registersOnly_of_implied rfl (toY _), registersOnly_of_implied rfl (toX _),
      registersOnly_of_implied rfl (toX _)⟩
  · refine ⟨registersOnly_of_implied rfl (setS_eq _ _), registersOnly_of_implied rfl (setS_eq _ _),
      registersOnly_of_implied rfl (setNZ_w16 _ _), registersOnly_of_implied rfl (setNZ_w16 _ _),
      registersOnly_of_implied rfl (setNZ_w16 _ _), registersOnly_of_implied rfl ?_⟩
    rw [setNZ_eq_withNZ, low_swapBytes, swapBytes_eq_ofNat]

/-! ## Pulls -/

theorem pull8_memoryKept (nw : Bool) (s : State) : MemoryKept s (s.pull8 nw).2 := (s.pull8_readsTo nw).cellByte_eq

theorem pull16_memoryKept (nw : Bool) (s : State) : MemoryKept s (s.pull16 nw).2 :=
  (pull8_memoryKept nw s).trans (pull8_memoryKept nw _)

theorem pullInstr_memoryKept (op : Byte) (w : Width) (f : Word → Cpu → Cpu) (s : State) :
    MemoryKept s (stackInstr op (pullThen w f) s) := by
  cases w with
  | w8 => exact pull8_memoryKept _ s
  | w16 => exact pull16_memoryKept _ s

theorem returnFromException_memoryKept (nw : Bool) (s : State) : MemoryKept s (s.returnFromException nw) := by
  have status : MemoryKept s ((s.pull8 nw).2.mapCpu fun c => c.pullStatus (s.pull8 nw).1) := pull8_memoryKept nw s
  have offset := status.trans (pull16_memoryKept nw _)
  unfold State.returnFromException
  dsimp only
  split
  · exact offset
  · exact offset.trans (pull8_memoryKept nw _)

/-! ## The instructions that store nothing -/

theorem readInstr_memoryKept (op : Byte) (o : Operand) (w : Width) {f : Word → State → State} (s : State)
    (hf : ∀ m t, (f m t).bus = t.bus) : MemoryKept s (readInstr op o w f s) :=
  .of_reads (readOperand_readsTo o w s) (hf _ _)

theorem addTo_bus (w : Width) (sub : Bool) (m : Word) (s : State) : (s.addTo w sub m).bus = s.bus := by
  unfold State.addTo
  split <;> rfl

theorem bitOf_memoryKept (op : Byte) (o : Operand) (s : State) : MemoryKept s (bitOf op o s) := by
  unfold bitOf
  split <;> exact readInstr_memoryKept _ _ _ s fun _ _ => rfl

/-- The mnemonics of several addressing modes. -/
theorem perform_memoryKept {m : Mnemonic} {op : Byte} {o : Operand} {s t : State} (hm : m ∉ memoryWriters)
    (h : perform m op o s = some t) : MemoryKept s t := by
  cases m <;> cases h
  case lda | ldx | ldy | cmp | cpx | cpy | and | ora | eor => exact readInstr_memoryKept _ _ _ s fun _ _ => rfl
  case adc | sbc => exact readInstr_memoryKept _ _ _ s fun _ t => addTo_bus _ _ _ t
  case bit => exact bitOf_memoryKept op o s
  case sta | stx | sty | stz | tsb | trb | inc | dec | asl | lsr | rol | ror => exact absurd (by decide) hm

theorem exec_memoryKept {i : Instr} (s : State) (hm : i.mnemonic ∉ memoryWriters) :
    ∃ t, exec i s = .next t ∧ MemoryKept s t := by
  cases hp : perform i.mnemonic i.opcode i.operand s with
  | some t => exact ⟨t, exec_of_perform i s t hp, perform_memoryKept hm hp⟩
  | none =>
    cases i
    all_goals dsimp only [Instr.mnemonic, Instr.opcode] at hp hm
    -- registers only
    case clc | cld | clv | sec | sed | xce | nop | wdm | tax | tay | txa | tya | txy | tyx | tsx | txs | tcs | tsc | tcd | tdc
        | xba | inx | iny | dex | dey | cli | sei | rep | sep | wai | stp =>
      exact ⟨_, rfl, .of_bus rfl⟩
    -- branches and jumps
    case bcc | bcs | beq | bne | bmi | bpl | bvc | bvs | bra | brl | jmpAbs | jmlLong => exact ⟨_, rfl, .of_bus rfl⟩
    case jmpAbsInd | jmpAbsIndX => exact ⟨_, rfl, .of_reads (s.readPtr_readsTo _ _) rfl⟩
    case jmlAbsIndLong => exact ⟨_, rfl, .of_reads (s.read24At_readsTo _ _ _) rfl⟩
    -- pulls and returns
    case pla | plx | ply | plb | pld => exact ⟨_, rfl, pullInstr_memoryKept _ _ _ s⟩
    case plp => exact ⟨_, rfl, (pullInstr_memoryKept _ _ _ s).trans (.of_bus (State.markMask_bus _ _))⟩
    case rts => exact ⟨_, rfl, pull16_memoryKept _ s⟩
    case rtl => exact ⟨_, rfl, (pull16_memoryKept _ s).trans (pull8_memoryKept _ _)⟩
    case rti => exact ⟨_, rfl, returnFromException_memoryKept _ s⟩
    -- the others store
    case pha | phx | phy | php | phb | phd | phk | pea | pei | per | jsrAbs | jsrAbsIndX | jsl | brk | cop | mvn | mvp =>
      exact absurd (by decide) hm
    -- the mnemonics of several addressing modes are not among these
    all_goals cases hp

/-- Settles O49: every instruction completes, and one that stores nothing only reads. (`memoryWriters` is the statement's list.) -/
theorem memoryWritersOnly : Obligations.MemoryWriters := by
  intro i s
  by_cases hm : i.mnemonic ∈ memoryWriters
  · obtain ⟨t, ht, _⟩ := exec_evolvesTo i s
    exact ⟨t, ht, fun h => absurd hm h⟩
  · obtain ⟨t, ht, kept⟩ := exec_memoryKept s hm
    exact ⟨t, ht, fun _ => kept⟩

end Sys2Proof.Claims
end

section
/-! PROOFS. Word operations as numbers of a width, the read-modify-write frame of the statements, and the instructions that need no
adder: compares, logic, bit tests, increments, shifts and rotates (R198, R252 to R270). -/

namespace Sys2Proof.Claims
open Sys2Proof.Machine

/-! ## Word operations as numbers of a width -/

theorem size_w8 : size .w8 = 256 := rfl

theorem size_w16 : size .w16 = 65536 := rfl

theorem size_dvd (w : Width) : size w ∣ 2 ^ 16 := by cases w <;> decide

theorem low_lt (w : Width) (v : Word) : low w v < size w := Nat.mod_lt _ (size_pos w)

theorem low_ofNat (w : Width) (n : Nat) : low w (BitVec.ofNat 16 n) = n % size w := by
  rw [low, BitVec.toNat_ofNat, Nat.mod_mod_of_dvd n (size_dvd w)]

theorem toNat_getA (c : Cpu) (w : Width) : (c.getA w).toNat = low w c.a := toNat_trunc w c.a

theorem toNat_getA_lt (c : Cpu) (w : Width) : (c.getA w).toNat < size w := toNat_getA c w ▸ low_lt w c.a

theorem low_getA (c : Cpu) (w : Width) : low w (c.getA w) = low w c.a := low_trunc w c.a

theorem low_and (w : Width) (u v : Word) : low w (u &&& v) = low w u &&& low w v := by
  rw [low, BitVec.toNat_and, size, Nat.and_mod_two_pow]
  rfl

theorem low_or (w : Width) (u v : Word) : low w (u ||| v) = low w u ||| low w v := by
  rw [low, BitVec.toNat_or, size, Nat.or_mod_two_pow]
  rfl

theorem low_xor (w : Width) (u v : Word) : low w (u ^^^ v) = low w u ^^^ low w v := by
  rw [low, BitVec.toNat_xor, size, Nat.xor_mod_two_pow]
  rfl

/-- A difference is a sum with what is missing to the size of the width. -/
theorem low_sub {w : Width} {u v : Word} (hu : u.toNat < size w) (hv : v.toNat < size w) :
    low w (u - v) = (u.toNat + size w - v.toNat) % size w := by
  rw [low, BitVec.toNat_sub, Nat.mod_mod_of_dvd _ (size_dvd w)]
  cases w with
  | w8 => rw [size_w8] at hu hv ⊢; omega
  | w16 => rw [size_w16] at hu hv ⊢; omega

theorem low_add_one (w : Width) (v : Word) : low w (v + 1) = (v.toNat + 1) % size w := by
  rw [low, BitVec.toNat_add, Nat.mod_mod_of_dvd _ (size_dvd w)]
  rfl

theorem low_sub_one (w : Width) (v : Word) : low w (v - 1) = (v.toNat + 65535) % size w := by
  rw [low, BitVec.toNat_sub, Nat.mod_mod_of_dvd _ (size_dvd w), Nat.add_comm]
  rfl

theorem toNat_mask (w : Width) : w.mask.toNat = size w - 1 := by cases w <;> rfl

theorem toNat_complement {w : Width} {v : Word} (h : v.toNat < size w) : (w.complement v).toNat = size w - 1 - v.toNat := by
  rw [Width.complement, BitVec.toNat_xor, toNat_mask, Nat.sub_sub, Nat.add_comm 1]
  refine Nat.eq_of_testBit_eq fun k => ?_
  rw [size] at h ⊢
  rw [Nat.testBit_xor, Nat.testBit_two_pow_sub_one, Nat.testBit_two_pow_sub_succ h]
  by_cases hk : k < 8 * w.bytes
  · simp [hk]
  · have above : v.toNat < 2 ^ k := h.trans_le (Nat.pow_le_pow_right (by decide) (Nat.le_of_not_lt hk))
    simp [hk, Nat.testBit_lt_two_pow above]

theorem low_shiftLeft (w : Width) (v : Word) : low w (shiftLeft v) = 2 * v.toNat % size w := by
  rw [low, shiftLeft, BitVec.toNat_shiftLeft, Nat.mod_mod_of_dvd _ (size_dvd w), Nat.shiftLeft_eq, Nat.mul_comm]

theorem low_shiftRight (w : Width) (v : Word) : low w (shiftRight v) = v.toNat / 2 % size w := by
  rw [low, shiftRight, BitVec.toNat_ushiftRight, Nat.shiftRight_eq_div_pow]

/-- The doubled number is even, so the carry is added to it. -/
theorem low_rotateLeft (w : Width) (k : Bool) (v : Word) : low w (rotateLeft k v) = (2 * v.toNat + k.toNat) % size w := by
  have carry : k.toNat < 2 ^ 1 := k.toNat_lt
  have doubled : (v <<< 1).toNat = 2 ^ 1 * (v.toNat % 32768) := by
    rw [BitVec.toNat_shiftLeft, Nat.shiftLeft_eq]
    omega
  have sum : (rotateLeft k v).toNat = (2 * v.toNat + k.toNat) % 2 ^ 16 := by
    have bounded : k.toNat < 2 ^ 16 := by omega
    rw [rotateLeft, BitVec.toNat_or, doubled, BitVec.toNat_ofNat, Nat.mod_eq_of_lt bounded, ← Nat.two_pow_add_eq_or_of_lt carry]
    omega
  rw [low, sum, Nat.mod_mod_of_dvd _ (size_dvd w)]

/-- The halved number lies below the top bit, so the carry is added there. -/
theorem low_rotateRight {w : Width} (k : Bool) {v : Word} (h : v.toNat < size w) :
    low w (rotateRight w k v) = (v.toNat / 2 + k.toNat * (size w / 2)) % size w := by
  have carry : k.toNat < 2 := k.toNat_lt
  have half : size w / 2 = 2 ^ (8 * w.bytes - 1) := by cases w <;> rfl
  have halved : v.toNat / 2 < 2 ^ (8 * w.bytes - 1) := by
    rw [← half]
    cases w with
    | w8 => rw [size_w8] at h ⊢; omega
    | w16 => rw [size_w16] at h ⊢; omega
  have top : (BitVec.ofNat 16 k.toNat <<< (8 * w.bytes - 1)).toNat = 2 ^ (8 * w.bytes - 1) * k.toNat := by
    cases w <;> cases k <;> rfl
  rw [low, rotateRight, BitVec.toNat_or, BitVec.toNat_ushiftRight, Nat.shiftRight_eq_div_pow, top, Nat.or_comm,
    ← Nat.two_pow_add_eq_or_of_lt halved, half, Nat.add_comm, Nat.mul_comm]

/-- The bit shifted out to the right. -/
theorem getLsbD_zero (v : Word) : v.getLsbD 0 = decide (v.toNat % 2 = 1) := by
  rw [BitVec.getLsbD, Nat.testBit_zero]

/-! ## The shared forms of the instructions -/

section
variable {i : Instr} {s : State} {w : Width}

/-- What an instruction does with the operand it reads: it is enough to say it of the number read. -/
theorem readsOperand_of_value {f : Word → State → State} {g : Cpu → Cpu} {regs : Nat → Cpu}
    (h : exec i s = .next (readInstr i.opcode i.operand w f s))
    (hf : f (readOperand i.operand w s).value (readOperand i.operand w s).st = (readOperand i.operand w s).st.mapCpu g)
    (hg : g s.cpu = regs (readOperand i.operand w s).value.toNat) : ReadsOperand i s w regs := by
  have reads := readOperand_readsTo i.operand w s
  obtain ⟨memory, frame⟩ := kept_of_reads reads _ _
  rw [readInstr, hf] at h
  refine ⟨_, h, retire_cpu_eq_advance i _ s ?_, rfl, memory, frame⟩
  rw [State.mapCpu_cpu, reads.cpu_eq, hg]

/-- As `readsOperand_of_readInstr`, for updates that are as numbers only on words of the width. -/
theorem readsOperand_of_readInstr_lt {g : Word → Cpu → Cpu} {regs : Nat → Cpu}
    (h : exec i s = .next (readInstr i.opcode i.operand w (fun m t => t.mapCpu (g m)) s))
    (hg : ∀ m : Word, m.toNat < size w → g m s.cpu = regs m.toNat) : ReadsOperand i s w regs :=
  readsOperand_of_value h rfl (hg _ (toNat_readOperand_lt i.operand w s))

theorem writeRMW_bus (ea : EA) (w : Width) (v : Word) (s : State) :
    (s.writeRMW ea w v).bus = storeHighFirst ea w v.toNat s.bus := by
  cases w with
  | w8 => exact congrArg (s.bus.write ea.addr) (wordLo_eq_ofNat v)
  | w16 => rw [storeHighFirst, ← wordLo_eq_ofNat, ← wordHi_eq_ofNat]; rfl

/-- The store of a read-modify-write changes no byte outside its cells. -/
theorem storeHighFirst_cellByte {ea : EA} {w : Width} {v : Nat} {b : Bus} {c : CellId} (h : c ∉ cellsHighFirst ea w v b) :
    (storeHighFirst ea w v b).cellByte c = b.cellByte c := by
  cases w with
  | w8 => exact Bus.write_cellByte_other _ _ _ _ fun e => h (Option.mem_toList.mpr e)
  | w16 =>
    obtain ⟨first, second⟩ := not_or.mp (mt List.mem_append.mpr h)
    exact (Bus.write_cellByte_other _ _ _ _ fun e => second (Option.mem_toList.mpr e)).trans
      (Bus.write_cellByte_other _ _ _ _ fun e => first (Option.mem_toList.mpr e))

/-- A read-modify-write on the accumulator touches registers only (R198). -/
theorem rmwInstr_accumulator (op : Byte) (w : Width) (f : Word → Word) (g : Word → Word → Cpu → Cpu) (s : State) :
    rmwInstr op .accumulator w f g s =
      impliedInstr op (fun c => g (c.getA w) (w.trunc (f (c.getA w))) (c.setA w (w.trunc (f (c.getA w))))) s := rfl

/-- A read-modify-write on memory (R198). -/
theorem rmw_memory {o : Operand} (w : Width) (f : Word → Word) (s : State) (ho : o ≠ .accumulator) :
    rmw o w f s =
      let r := resolve o s
      let v := r.st.readEA r.ea w
      ⟨v.1, w.trunc (f v.1), v.2.writeRMW r.ea w (w.trunc (f v.1))⟩ := by
  cases o
  case accumulator => exact absurd rfl ho
  all_goals rfl

/-- It is enough that the update and the status written are as numbers on words of the width. -/
theorem modifiesMemory_of_rmwInstr {f : Word → Word} {g : Word → Word → Cpu → Cpu} {nf : Nat → Nat}
    {ng : Nat → Nat → Status}
    (h : exec i s = .next (rmwInstr i.opcode i.operand w f g s)) (ho : i.operand ≠ .accumulator)
    (hf : ∀ v : Word, v.toNat < size w → low w (f v) = nf v.toNat % size w)
    (hg : ∀ v r : Word, v.toNat < size w → g v r s.cpu = { s.cpu with p := ng v.toNat (low w r) }) :
    ModifiesMemory i s w nf ng := by
  have resolved := resolve_readsTo i.operand s
  have reads := resolved.trans (State.readEA_readsTo (resolve i.operand s).ea w _)
  have modified := rmw_accessesTo i.operand w f s ho
  have old := State.toNat_readEA_lt (resolve i.operand s).ea w (resolve i.operand s).st
  have new := hf _ old
  rw [rmwInstr, rmw_memory w f s ho] at h
  rw [rmw_memory w f s ho] at modified
  refine ⟨_, h, retire_cpu_eq_advance i _ s ?_, ?_, fun c hc => ?_, frame_of_accesses modified _ _⟩
  · rw [State.mapCpu_cpu, modified.cpu_eq, hg _ _ old, low_trunc, new]
  · rw [State.retire_bus, State.mapCpu_bus, writeRMW_bus, toNat_trunc, ← low, new]
  · rw [State.retire_bus, State.mapCpu_bus, writeRMW_bus, toNat_trunc, ← low, new, storeHighFirst_cellByte hc]
    exact reads.cellByte_eq c

/-- The same for either kind of operand, where the status written depends on no register. -/
theorem modifies_of_rmwInstr {f : Word → Word} {g : Word → Word → Cpu → Cpu} {nf : Nat → Nat}
    {ng : Nat → Nat → Status}
    (h : exec i s = .next (rmwInstr i.opcode i.operand s.cpu.mw f g s))
    (hf : ∀ v : Word, v.toNat < size s.cpu.mw → low s.cpu.mw (f v) = nf v.toNat % size s.cpu.mw)
    (hg : ∀ (v r : Word) (c : Cpu), c.p = s.cpu.p → v.toNat < size s.cpu.mw →
      g v r c = { c with p := ng v.toNat (low s.cpu.mw r) }) :
    Modifies i s nf ng := by
  unfold Modifies
  dsimp only
  split
  next ho =>
    rw [ho, rmwInstr_accumulator] at h
    refine registersOnly_of_implied h ?_
    have old := toNat_getA_lt s.cpu s.cpu.mw
    rw [hg _ _ _ (Cpu.setA_p _ _ _) old, setA_eq_writtenA, low_trunc, hf _ old, toNat_getA]
  next ho => exact modifiesMemory_of_rmwInstr h ho hf fun v r hv => hg v r s.cpu rfl hv

end

/-! ## Compares and logic -/

theorem compare_eq {w : Width} {a m : Word} (ha : a.toNat < size w) (hm : m.toNat < size w) (c : Cpu) :
    c.compare w a m =
      { c with p := { withNZ c.p w ((a.toNat + size w - m.toNat) % size w) with c := decide (m.toNat ≤ a.toNat) } } := by
  rw [Cpu.compare, setNZ_eq_withNZ, low_trunc, low_sub ha hm]

/-- The compare of a register's number of a width with the operand. -/
theorem comparesOperand {i : Instr} {s : State} {w : Width} {v : Word}
    (h : exec i s = .next (readInstr i.opcode i.operand w (fun m t => t.mapCpu (Cpu.compare w (w.trunc v) m)) s)) :
    ReadsOperand i s w fun m =>
      { s.cpu with p := { withNZ s.cpu.p w ((low w v + size w - m) % size w) with c := decide (m ≤ low w v) } } := by
  have register : (w.trunc v).toNat = low w v := toNat_trunc w v
  refine readsOperand_of_readInstr_lt h fun m hm => ?_
  rw [compare_eq (register ▸ low_lt w v) hm, register]

/-- Settles O25: each form compares its register's number of the width. -/
theorem compares : Obligations.Compares := fun i s =>
  ⟨fun h => comparesOperand (exec_cmp i s h), fun h => comparesOperand (exec_cpx i s h),
    fun h => comparesOperand (exec_cpy i s h)⟩

/-- Settles O26: each form loads A with the operation on the numbers of the width. -/
theorem logic : Obligations.Logic := by
  refine fun i s => ⟨fun h => readsOperand_of_readInstr (exec_and i s h) fun m => ?_,
    fun h => readsOperand_of_readInstr (exec_ora i s h) fun m => ?_,
    fun h => readsOperand_of_readInstr (exec_eor i s h) fun m => ?_⟩
  · rw [loadA_eq, low_and, low_getA]
  · rw [loadA_eq, low_or, low_getA]
  · rw [loadA_eq, low_xor, low_getA]

/-! ## Bit tests -/

theorem getA_and_beq_zero (c : Cpu) (w : Width) (m : Word) : (c.getA w &&& m == 0) = decide (low w c.a &&& m.toNat = 0) := by
  rw [Bool.eq_iff_iff, beq_iff_eq, decide_eq_true_iff, ← BitVec.toNat_inj, BitVec.toNat_and, toNat_getA]
  rfl

theorem testZ_eq (c : Cpu) (w : Width) (m : Word) :
    c.testZ w m = { c with p := { c.p with z := decide (low w c.a &&& m.toNat = 0) } } := by
  rw [Cpu.testZ, getA_and_beq_zero]

theorem bitMemory_eq (c : Cpu) (w : Width) (m : Word) :
    c.bitMemory w m = { c with p := { c.p with
      z := decide (low w c.a &&& m.toNat = 0)
      n := m.toNat.testBit (8 * w.bytes - 1)
      v := m.toNat.testBit (8 * w.bytes - 2) } } := by
  rw [Cpu.bitMemory, testZ_eq]
  rfl

/-- The immediate form of BIT is the one of opcode 89 (R258). -/
theorem bitOf_eq {i : Instr} (h : i.mnemonic = .bit) (s : State) :
    bitOf i.opcode i.operand s =
      if i.opcode = 0x89 then bitImmediate i.opcode i.operand s else bit i.opcode i.operand s := by
  cases i
  case bitImm | bitDir | bitAbs | bitDirX | bitAbsX => rfl
  all_goals
    dsimp only [Instr.mnemonic, Instr.opcode] at h
    cases h

/-- Settles O27: the immediate form tests Z alone, the others copy two bits of the operand. -/
theorem bitTest : Obligations.BitTest := by
  intro i s h
  have form := (exec_bit i s h).trans (congrArg Host.Outcome.next (bitOf_eq h s))
  by_cases immediate : i.opcode = 0x89
  · simp only [immediate, if_true]
    rw [if_pos immediate] at form
    exact readsOperand_of_readInstr_lt form fun m _ => testZ_eq s.cpu _ m
  · simp only [immediate, if_false]
    rw [if_neg immediate] at form
    exact readsOperand_of_readInstr_lt form fun m _ => bitMemory_eq s.cpu _ m

/-- TSB and TRB have no accumulator form. -/
theorem operand_ne_accumulator {i : Instr} (h : i.mnemonic ∉ accumulatorWriters) : i.operand ≠ .accumulator :=
  mt (mem_accumulatorWriters_of_operand i) h

/-- Settles O28: each form stores the word with A's bits set, or cleared, and tests Z on the word read. -/
theorem testAndModify : Obligations.TestAndModify := by
  refine fun i s => ⟨fun h => ?_, fun h => ?_⟩
  · refine modifiesMemory_of_rmwInstr (exec_tsb i s h) (operand_ne_accumulator (h ▸ by decide)) (fun v hv => ?_)
      fun v _ _ => testZ_eq s.cpu _ v
    have bounded : v.toNat ||| low s.cpu.mw s.cpu.a < size s.cpu.mw := Nat.or_lt_two_pow hv (low_lt _ _)
    rw [low_or, low_of_lt hv, low_getA, Nat.mod_eq_of_lt bounded]
  · refine modifiesMemory_of_rmwInstr (exec_trb i s h) (operand_ne_accumulator (h ▸ by decide)) (fun v _ => ?_)
      fun v _ _ => testZ_eq s.cpu _ v
    have others : (s.cpu.mw.complement (s.cpu.getA s.cpu.mw)).toNat = size s.cpu.mw - 1 - low s.cpu.mw s.cpu.a := by
      rw [toNat_complement (toNat_getA_lt s.cpu _), toNat_getA]
    rw [low, BitVec.toNat_and, others]

/-! ## Increments, decrements, shifts and rotates -/

/-- N and Z of a result, whatever the registers. -/
theorem setNZ_of_status {c : Cpu} {p : Status} (h : c.p = p) (r : Word) (w : Width) :
    c.setNZ r w = { c with p := withNZ p w (low w r) } := h ▸ setNZ_eq_withNZ c r w

/-- N, Z and the bit shifted out, whatever the registers. -/
theorem setNZC_of_status {c : Cpu} {p : Status} (h : c.p = p) (r : Word) (w : Width) {k b : Bool} (hk : k = b) :
    c.setNZC r w k = { c with p := { withNZ p w (low w r) with c := b } } := by
  rw [Cpu.setNZC, setNZ_of_status h, hk]

/-- The bit shifted out to the left. -/
theorem msb_of_lt {w : Width} {v : Word} (h : v.toNat < size w) : w.msb v = decide (size w / 2 ≤ v.toNat) := by
  rw [msb_eq_decide, low_of_lt h]

/-- Settles O29: the word plus or minus one is the number plus or minus one, modulo the width. -/
theorem incrementsAndDecrements : Obligations.IncrementsAndDecrements := by
  refine ⟨fun i s => ⟨fun h => ?_, fun h => ?_⟩, fun s => ?_⟩
  · exact modifies_of_rmwInstr (exec_inc i s h) (fun v _ => low_add_one _ v) fun _ r _ hc _ => setNZ_of_status hc r _
  · refine modifies_of_rmwInstr (exec_dec i s h) (fun v hv => ?_) fun _ r _ hc _ => setNZ_of_status hc r _
    have one : (1 : Word).toNat < size s.cpu.mw := by cases s.cpu.mw <;> decide
    exact low_sub hv one
  · have toX (v : Word) := loadX_eq s.cpu s.cpu.xw (s.cpu.xw.trunc v)
    have toY (v : Word) := loadY_eq s.cpu s.cpu.xw (s.cpu.xw.trunc v)
    simp only [low_trunc] at toX toY
    refine ⟨registersOnly_of_implied rfl ((toX _).trans ?_), registersOnly_of_implied rfl ((toY _).trans ?_),
      registersOnly_of_implied rfl ((toX _).trans ?_), registersOnly_of_implied rfl ((toY _).trans ?_)⟩
    · rw [low_add_one]
    · rw [low_add_one]
    · rw [low_sub_one]
    · rw [low_sub_one]

/-- Settles O30: each form is its update as a number, with the bit shifted out. -/
theorem shiftsAndRotates : Obligations.ShiftsAndRotates := by
  refine fun i s => ⟨fun h => ?_, fun h => ?_, fun h => ?_, fun h => ?_⟩
  · exact modifies_of_rmwInstr (exec_asl i s h) (fun v _ => low_shiftLeft _ v)
      fun _ r _ hc hv => setNZC_of_status hc r _ (msb_of_lt hv)
  · exact modifies_of_rmwInstr (exec_lsr i s h) (fun v _ => low_shiftRight _ v)
      fun v r _ hc _ => setNZC_of_status hc r _ (getLsbD_zero v)
  · exact modifies_of_rmwInstr (exec_rol i s h) (fun v _ => low_rotateLeft _ _ v)
      fun _ r _ hc hv => setNZC_of_status hc r _ (msb_of_lt hv)
  · exact modifies_of_rmwInstr (exec_ror i s h) (fun v hv => low_rotateRight _ hv)
      fun v r _ hc _ => setNZC_of_status hc r _ (getLsbD_zero v)

end Sys2Proof.Claims
end

section
/-! PROOFS. The adder of ADC and SBC in binary, and the frame of its two instructions (R250, R251). -/

namespace Sys2Proof.Claims
open Sys2Proof.Machine

/-! ## Results, carries and overflows as numbers -/

theorem storeSum_eq (c : Cpu) (w : Width) {r : SumResult} {n : Nat} {k v : Bool} (hn : low w r.value = n) (hk : r.carry = k)
    (hv : r.overflow = v) :
    c.storeSum w r = { c with a := writtenA w c.a n, p := { withNZ c.p w n with c := k, v := v } } := by
  rw [Cpu.storeSum, setNZ_eq_withNZ, setA_eq_writtenA, hn, hk, hv]

theorem half_size (w : Width) : 2 ^ (8 * w.bytes - 1) = size w / 2 := by cases w <;> rfl

/-- The overflow of R250: the operands agree in their top bit, the sum differs from them in it. -/
theorem sumOverflow_eq {w : Width} {a b : Word} (ha : a.toNat < size w) (hb : b.toNat < size w) (r : Nat) :
    sumOverflow w a b r =
      decide ((size w / 2 ≤ a.toNat ↔ size w / 2 ≤ b.toNat) ∧ ¬(size w / 2 ≤ a.toNat ↔ r / (size w / 2) % 2 = 1)) := by
  rw [sumOverflow, msb_of_lt ha, msb_of_lt hb, Int.toNat_natCast, Nat.testBit_eq_decide_div_mod_eq, half_size,
    Bool.eq_iff_iff]
  simp

/-- In binary that is a signed result that does not fit the width. -/
theorem sumOverflow_binary {w : Width} {a b : Word} (ha : a.toNat < size w) (hb : b.toNat < size w) (k : Bool) :
    sumOverflow w a b (a.toNat + b.toNat + k.toNat : Nat) = overflows w (signed w a.toNat + signed w b.toNat + k.toNat) := by
  have carry : k.toNat < 2 := k.toNat_lt
  rw [sumOverflow_eq ha hb, overflows, signed, signed, decide_eq_decide]
  cases w with
  | w8 =>
    rw [size_w8] at ha hb ⊢
    split <;> split <;> omega
  | w16 =>
    rw [size_w16] at ha hb ⊢
    split <;> split <;> omega

theorem storeSum_binary {w : Width} {a b : Word} (ha : a.toNat < size w) (hb : b.toNat < size w) (k : Bool) (c : Cpu) :
    c.storeSum w (binarySum w a b k) =
      { c with
        a := writtenA w c.a ((a.toNat + b.toNat + k.toNat) % size w)
        p := { withNZ c.p w ((a.toNat + b.toNat + k.toNat) % size w) with
          c := decide (size w ≤ a.toNat + b.toNat + k.toNat)
          v := overflows w (signed w a.toNat + signed w b.toNat + k.toNat) } } := by
  refine storeSum_eq c w ?_ ?_ (sumOverflow_binary ha hb k)
  · rw [binarySum, low_trunc, low_ofNat]
  · have positive := size_pos w
    rw [binarySum, decide_eq_decide, toNat_mask]
    omega

/-- The complement of a number is its negation less one. -/
theorem signed_complement {w : Width} {m : Nat} (h : m < size w) : signed w (size w - 1 - m) = -signed w m - 1 := by
  unfold signed
  cases w with
  | w8 =>
    rw [size_w8] at h ⊢
    split <;> split <;> omega
  | w16 =>
    rw [size_w16] at h ⊢
    split <;> split <;> omega

/-! ## The instructions -/

/-- The second summand of an adder: SBC adds the complement (R251). -/
theorem adderSum_eq (w : Width) (sub : Bool) (m : Word) (c : Cpu) :
    adderSum w sub m c = addCore c.p.d w sub (c.getA w) (if sub then w.complement m else m) c.p.c := rfl

theorem addTo_of_not_draws {w : Width} {sub : Bool} {m : Word} {s : State} (h : drawsSum s.params w m s.cpu = false) :
    s.addTo w sub m = s.mapCpu (Cpu.storeSum w (adderSum w sub m s.cpu)) := by
  rw [State.addTo, h]
  rfl

/-- An adder that does not draw reads its operand and stores the sum. -/
theorem readsOperand_of_adder {i : Instr} {s : State} {w : Width} {sub : Bool} {regs : Nat → Cpu}
    (h : exec i s = .next (readInstr i.opcode i.operand w (fun m t => t.addTo w sub m) s))
    (hd : drawsSum s.params w (readOperand i.operand w s).value s.cpu = false)
    (hr : s.cpu.storeSum w (adderSum w sub (readOperand i.operand w s).value s.cpu) =
      regs (readOperand i.operand w s).value.toNat) : ReadsOperand i s w regs := by
  have reads := readOperand_readsTo i.operand w s
  refine readsOperand_of_value (g := Cpu.storeSum w (adderSum w sub (readOperand i.operand w s).value s.cpu)) h ?_ hr
  rw [addTo_of_not_draws (by rwa [reads.params_eq, reads.cpu_eq]), reads.cpu_eq]

theorem drawsSum_binary {p : Params} {w : Width} {m : Word} {c : Cpu} (h : c.p.d = false) : drawsSum p w m c = false := by
  simp [drawsSum, h]

theorem adderSum_binary {w : Width} {sub : Bool} {m : Word} {c : Cpu} (h : c.p.d = false) :
    adderSum w sub m c = binarySum w (c.getA w) (if sub then w.complement m else m) c.p.c := by
  rw [adderSum_eq, h]
  rfl

/-- Settles O22: the sum of A and the operand, or its complement, with the carry. -/
theorem binaryAddSubtract : Obligations.BinaryAddSubtract := by
  intro i s hd w a k ends
  have accumulator := toNat_getA_lt s.cpu w
  have operand := toNat_readOperand_lt i.operand w s
  refine ⟨fun h => readsOperand_of_adder (exec_adc i s h) (drawsSum_binary hd) ?_,
    fun h => readsOperand_of_adder (exec_sbc i s h) (drawsSum_binary hd) ?_⟩
  · rw [adderSum_binary hd, if_neg (by decide), storeSum_binary accumulator operand, toNat_getA]
  · have complement := toNat_complement operand
    have borrow : size w ≤ a + (size w - 1 - (readOperand i.operand w s).value.toNat) + k ↔
        (readOperand i.operand w s).value.toNat + 1 ≤ a + k := by omega
    have signs : signed w a + (-signed w (readOperand i.operand w s).value.toNat - 1) + k =
        signed w a - signed w (readOperand i.operand w s).value.toNat - 1 + k := by ring
    rw [adderSum_binary hd, if_pos rfl, storeSum_binary accumulator (by omega), toNat_getA, complement, signed_complement operand,
      signs, decide_eq_decide.mpr borrow]

end Sys2Proof.Claims
end

section
/-! PROOFS. The digit loop of the adder in decimal mode, on any numbers: after each step the carry and the digits are those of the
statement's algorithm (R250, R251). -/

namespace Sys2Proof.Claims
open Sys2Proof.Machine

/-! ## One digit -/

/-- The sum of digit `k`, before its adjustment. -/
def digitTotal (sub : Bool) (a b c k : Nat) : Nat := nibble a k + nibble b k + carryInto sub a b c k

/-- A digit's sum adjusted as the loop does it, with its carry still above and below 0 where a difference borrows (R250). -/
def adjustedTotal (sub : Bool) (d : Nat) : Int :=
  if sub then (if d < 16 then (d : Int) - 6 else d) else if 10 ≤ d then (d : Int) + 6 else d

theorem adjustedDigit_eq (sub : Bool) (a b c k : Nat) :
    (adjustedDigit sub a b c k : Int) = adjustedTotal sub (digitTotal sub a b c k) % 16 := by
  unfold adjustedDigit adjustedTotal digitTotal
  dsimp only
  generalize nibble a k + nibble b k + carryInto sub a b c k = d
  cases sub with
  | false =>
    simp only [Bool.false_eq_true, if_false]
    split <;> omega
  | true =>
    simp only [if_true]
    split <;> split <;> omega

theorem carryInto_succ (sub : Bool) (a b c k : Nat) :
    carryInto sub a b c (k + 1) = (decide (16 ≤ adjustedTotal sub (digitTotal sub a b c k))).toNat := by
  have reaches : 16 ≤ adjustedTotal sub (digitTotal sub a b c k) ↔ (if sub then 16 else 10) ≤ digitTotal sub a b c k := by
    unfold adjustedTotal
    cases sub with
    | false =>
      simp only [Bool.false_eq_true, if_false]
      split <;> omega
    | true =>
      simp only [if_true]
      split <;> omega
  rw [decide_eq_decide.mpr reaches]
  exact (Bool.cond_decide _ _ _).symm

theorem carryInto_le_one (sub : Bool) (a b : Nat) {c : Nat} (hc : c ≤ 1) (k : Nat) : carryInto sub a b c k ≤ 1 := by
  cases k with
  | zero => exact hc
  | succ k => exact carryInto_succ sub a b c k ▸ Bool.toNat_le _

/-- The number that the first `n` digits spell in a base. -/
def spelled (base : Nat) (digit : Nat → Nat) (n : Nat) : Nat := ((List.range n).map fun k => digit k * base ^ k).sum

theorem spelled_succ (base : Nat) (digit : Nat → Nat) (n : Nat) :
    spelled base digit (n + 1) = spelled base digit n + digit n * base ^ n := by
  simp [spelled, List.range_succ]

theorem adjustedSum_eq_spelled (sub : Bool) (w : Width) (a b c : Nat) :
    adjustedSum sub w a b c = spelled 16 (adjustedDigit sub a b c) (2 * w.bytes) := rfl

/-! ## The loop -/

/-- What the loop holds after `n` digits: the carry into the next one, and the digits done below 16^n. -/
structure DigitsDone (sub : Bool) (a b c n : Nat) (acc : DecimalAcc) : Prop where
  carry  : acc.carry.toNat = carryInto sub a b c n
  digits : acc.r % (16 ^ n : Nat) = spelled 16 (adjustedDigit sub a b c) n

/-- Below a unit nothing counts against multiples of it. -/
theorem mul_le_mul_add_iff {u l : Int} (hl : 0 ≤ l) (hu : l < u) (n e : Int) : n * u ≤ e * u + l ↔ n ≤ e := by
  constructor
  · intro h
    by_contra less
    nlinarith
  · intro h
    nlinarith

/-- A digit above a unit, modulo sixteen units. -/
theorem mul_add_emod {u l : Int} (hl : 0 ≤ l) (hu : l < u) (e : Int) : (e * u + l) % (16 * u) = e % 16 * u + l := by
  have parts : e * u + l = (e % 16 * u + l) + 16 * u * (e / 16) := by
    linear_combination (-u) * Int.emod_add_mul_ediv e 16
  have low := Int.emod_nonneg e (by decide : (16 : Int) ≠ 0)
  have high := Int.emod_lt_of_pos e (by decide : (0 : Int) < 16)
  rw [parts, Int.add_mul_emod_self_left, Int.emod_eq_of_lt (by nlinarith) (by nlinarith)]

/-- The loop's adjustment of a digit's sum standing above the digits done is that of the sum alone (R250). -/
theorem adjust_scaled (sub : Bool) (d : Nat) {u l : Nat} (h : l < u) :
    (if sub then
        if ((d * u + l : Nat) : Int) < (16 * u : Nat) then ((d * u + l : Nat) : Int) - (6 * u : Nat) else (d * u + l : Nat)
      else if ((10 * u : Nat) : Int) ≤ (d * u + l : Nat) then ((d * u + l : Nat) : Int) + (6 * u : Nat) else (d * u + l : Nat)) =
      adjustedTotal sub d * u + l := by
  have reaches := mul_le_mul_add_iff (Int.natCast_nonneg l) (Int.ofNat_lt.mpr h)
  unfold adjustedTotal
  push_cast
  cases sub with
  | false =>
    simp only [Bool.false_eq_true, if_false, reaches 10 d, Nat.ofNat_le_cast]
    split <;> ring
  | true =>
    simp only [if_true, ← not_le, reaches 16 d, Nat.ofNat_le_cast]
    split <;> ring

section
variable {w : Width} {sub : Bool} {a b : Word} {c n : Nat} {acc : DecimalAcc}

theorem DigitsDone.digits_lt (h : DigitsDone sub a.toNat b.toNat c n acc) :
    spelled 16 (adjustedDigit sub a.toNat b.toNat c) n < 16 ^ n := by
  have unit : (0 : Int) < (16 ^ n : Nat) := Int.natCast_pos.mpr (Nat.pow_pos (by decide))
  have bound := Int.emod_lt_of_pos acc.r unit
  rw [h.digits] at bound
  exact Int.ofNat_lt.mp bound

/-- One step of the loop: the digit's sum stands above the digits done. -/
theorem DigitsDone.decimalNibble_eq (h : DigitsDone sub a.toNat b.toNat c n acc) :
    let d := digitTotal sub a.toNat b.toNat c n
    decimalNibble w sub a b n acc =
      ⟨adjustedTotal sub d * (16 ^ n : Nat) + spelled 16 (adjustedDigit sub a.toNat b.toNat c) n,
        decide (16 ≤ adjustedTotal sub d),
        sumOverflow w a b (d * 16 ^ n + spelled 16 (adjustedDigit sub a.toNat b.toNat c) n : Nat)⟩ := by
  intro d
  have below : (spelled 16 (adjustedDigit sub a.toNat b.toNat c) n : Int) < (16 ^ n : Nat) := Int.ofNat_lt.mpr h.digits_lt
  have above := mul_le_mul_add_iff (Int.natCast_nonneg _) below
  have sum : ((a.toNat / 16 ^ n % 16 * 16 ^ n : Nat) : Int) + (b.toNat / 16 ^ n % 16 * 16 ^ n : Nat) +
      (acc.carry.toNat * 16 ^ n : Nat) + acc.r % (16 ^ n : Nat) =
        (d * 16 ^ n + spelled 16 (adjustedDigit sub a.toNat b.toNat c) n : Nat) := by
    rw [h.carry, h.digits]
    simp only [d, digitTotal, nibble]
    push_cast
    ring
  unfold decimalNibble
  dsimp only
  rw [sum, adjust_scaled sub d h.digits_lt]
  exact congrArg (DecimalAcc.mk _ · _) (decide_eq_decide.mpr (above 16 _))

theorem DigitsDone.step (h : DigitsDone sub a.toNat b.toNat c n acc) :
    DigitsDone sub a.toNat b.toNat c (n + 1) (decimalNibble w sub a b n acc) := by
  rw [h.decimalNibble_eq]
  refine ⟨(carryInto_succ sub _ _ c n).symm, ?_⟩
  have below : (spelled 16 (adjustedDigit sub a.toNat b.toNat c) n : Int) < (16 ^ n : Nat) := Int.ofNat_lt.mpr h.digits_lt
  have unit : ((16 ^ (n + 1) : Nat) : Int) = 16 * (16 ^ n : Nat) := by
    rw [pow_succ']
    rfl
  rw [unit, mul_add_emod (Int.natCast_nonneg _) below, ← adjustedDigit_eq, spelled_succ]
  push_cast
  ring

/-- The loop does as many digits as it is asked for. -/
theorem DigitsDone.decimalLoop (h : DigitsDone sub a.toNat b.toNat c n acc) (k : Nat) :
    DigitsDone sub a.toNat b.toNat c (n + k) (decimalLoop w sub a b n k acc) := by
  induction k generalizing n acc with
  | zero => exact h
  | succ k ih => exact Nat.add_right_comm n 1 k ▸ ih h.step

/-- The last step of the loop is that of the last digit. -/
theorem decimalLoop_succ (k : Nat) :
    decimalLoop w sub a b n (k + 1) acc = decimalNibble w sub a b (n + k) (decimalLoop w sub a b n k acc) := by
  induction k generalizing n acc with
  | zero => rfl
  | succ k ih => exact (ih (n := n + 1)).trans (by rw [Nat.add_right_comm, Nat.add_assoc]; rfl)

end

/-! ## The decimal sum of any numbers -/

theorem low_ofInt (w : Width) (r : Int) : low w (BitVec.ofInt 16 r) = (r % size w).toNat := by
  rw [low, BitVec.toNat_ofInt]
  cases w with
  | w8 => rw [size_w8]; omega
  | w16 => rw [size_w16]; omega

theorem size_eq_pow (w : Width) : size w = 16 ^ (2 * w.bytes) := by cases w <;> rfl

theorem top_digit (w : Width) : 2 * w.bytes - 1 + 1 = 2 * w.bytes := by cases w <;> rfl

section
variable {w : Width} {a b : Word}

/-- Before the loop no digit is done (R250). -/
theorem digitsDone_zero (sub : Bool) (a b : Nat) (k : Bool) : DigitsDone sub a b k.toNat 0 ⟨0, k, false⟩ := ⟨rfl, rfl⟩

theorem decimalSum_done (sub : Bool) (a b : Word) (k : Bool) (n : Nat) :
    DigitsDone sub a.toNat b.toNat k.toNat n (decimalLoop w sub a b 0 n ⟨0, k, false⟩) := by
  have done := (digitsDone_zero sub a.toNat b.toNat k).decimalLoop (w := w) n
  rwa [Nat.zero_add] at done

theorem decimalSum_value (sub : Bool) (k : Bool) :
    low w (decimalSum w sub a b k).value = adjustedSum sub w a.toNat b.toNat k.toNat := by
  rw [decimalSum, low_trunc, low_ofInt, size_eq_pow, (decimalSum_done sub a b k (2 * w.bytes)).digits, adjustedSum_eq_spelled,
    Int.toNat_natCast]

theorem decimalSum_carry (sub : Bool) (k : Bool) :
    (decimalSum w sub a b k).carry = decide (carryInto sub a.toNat b.toNat k.toNat (2 * w.bytes) = 1) := by
  rw [← (decimalSum_done (w := w) sub a b k (2 * w.bytes)).carry]
  simp [decimalSum]

/-- A number's top bit is that of its top digit. -/
theorem half_le_iff {v : Nat} (h : v < size w) : size w / 2 ≤ v ↔ 8 ≤ nibble v (2 * w.bytes - 1) := by
  unfold nibble
  cases w with
  | w8 => rw [size_w8] at h ⊢; exact (by omega : 128 ≤ v ↔ 8 ≤ v / 16 % 16)
  | w16 => rw [size_w16] at h ⊢; exact (by omega : 32768 ≤ v ↔ 8 ≤ v / 4096 % 16)

/-- The top bit of a sum that stands above the digits done is that of its top digit's sum. -/
theorem half_bit {w : Width} (d : Nat) {l : Nat} (h : l < 16 ^ (2 * w.bytes - 1)) :
    (d * 16 ^ (2 * w.bytes - 1) + l) / (size w / 2) % 2 = d / 8 % 2 := by
  have half : size w / 2 = 16 ^ (2 * w.bytes - 1) * 8 := by cases w <;> rfl
  rw [half, ← Nat.div_div_eq_div_mul, Nat.mul_comm, Nat.mul_add_div (Nat.zero_lt_of_lt h), Nat.div_eq_of_lt h, Nat.add_zero]

theorem decimalSum_overflow (ha : a.toNat < size w) (hb : b.toNat < size w) (sub : Bool) (k : Bool) :
    (decimalSum w sub a b k).overflow = adjustedOverflow sub w a.toNat b.toNat k.toNat := by
  have done := decimalSum_done (w := w) sub a b k (2 * w.bytes - 1)
  have carry := carryInto_le_one sub a.toNat b.toNat k.toNat_le (2 * w.bytes - 1)
  have da : nibble a.toNat (2 * w.bytes - 1) < 16 := Nat.mod_lt _ (by decide)
  have db : nibble b.toNat (2 * w.bytes - 1) < 16 := Nat.mod_lt _ (by decide)
  rw [decimalSum, ← top_digit, decimalLoop_succ, Nat.zero_add, done.decimalNibble_eq, sumOverflow_eq ha hb,
    half_bit _ done.digits_lt, digitTotal, adjustedOverflow, topDigitOverflows, signedTop, signedTop, decide_eq_decide,
    half_le_iff ha, half_le_iff hb]
  split <;> split <;> omega

/-- The adder in decimal mode writes the digits of the result. -/
theorem storeSum_decimal (ha : a.toNat < size w) (hb : b.toNat < size w) (sub : Bool) (k : Bool) (c : Cpu) :
    c.storeSum w (decimalSum w sub a b k) =
      { c with
        a := writtenA w c.a (adjustedSum sub w a.toNat b.toNat k.toNat)
        p := { withNZ c.p w (adjustedSum sub w a.toNat b.toNat k.toNat) with
          c := decide (carryInto sub a.toNat b.toNat k.toNat (2 * w.bytes) = 1)
          v := adjustedOverflow sub w a.toNat b.toNat k.toNat } } :=
  storeSum_eq c w (decimalSum_value sub k) (decimalSum_carry sub k) (decimalSum_overflow ha hb sub k)

end

end Sys2Proof.Claims
end

section
/-! PROOFS. The adder of ADC and SBC in decimal mode: on BCD operands the digit algorithm is decimal addition, of the nines'
complement for SBC; elsewhere the algorithm itself, or the draw of DECIMAL_NONBCD (R250, R251). -/

namespace Sys2Proof.Claims
open Sys2Proof.Machine

/-! ## Numbers spelled in decimal -/

theorem spelled_lt {digit : Nat → Nat} {n : Nat} (h : ∀ k, k < n → digit k ≤ 9) : spelled 10 digit n < 10 ^ n := by
  induction n with
  | zero => exact Nat.one_pos
  | succ n ih =>
    have below := ih fun k hk => h k (Nat.lt_succ_of_lt hk)
    have top := Nat.mul_le_mul_right (10 ^ n) (h n (Nat.lt_succ_self n))
    rw [spelled_succ, pow_succ']
    omega

/-- The digits below the top one. -/
theorem spelled_succ_mod {digit : Nat → Nat} {n : Nat} (h : ∀ k, k < n → digit k ≤ 9) :
    spelled 10 digit (n + 1) % 10 ^ n = spelled 10 digit n := by
  rw [spelled_succ, Nat.add_mul_mod_self_right, Nat.mod_eq_of_lt (spelled_lt h)]

/-- The nines' complement of a number, digit by digit. -/
def nines (m k : Nat) : Nat := 9 - nibble m k

theorem spelled_nines {m n : Nat} (h : ∀ k, k < n → nibble m k ≤ 9) :
    spelled 10 (nibble m) n + spelled 10 (nines m) n + 1 = 10 ^ n := by
  induction n with
  | zero => rfl
  | succ n ih =>
    have below := ih fun k hk => h k (Nat.lt_succ_of_lt hk)
    have top : nibble m n * 10 ^ n + nines m n * 10 ^ n = 9 * 10 ^ n := by
      rw [← Nat.add_mul, nines, Nat.add_sub_cancel' (h n (Nat.lt_succ_self n))]
    rw [spelled_succ, spelled_succ, pow_succ']
    omega

theorem spelled_w8 (base : Nat) (digit : Nat → Nat) :
    spelled base digit (2 * Width.w8.bytes) = digit 0 + base * digit 1 := by
  rw [show 2 * Width.w8.bytes = 0 + 1 + 1 from rfl]
  simp only [spelled_succ]
  rw [show spelled base digit 0 = 0 from rfl]
  ring

theorem spelled_w16 (base : Nat) (digit : Nat → Nat) :
    spelled base digit (2 * Width.w16.bytes) = digit 0 + base * digit 1 + base ^ 2 * digit 2 + base ^ 3 * digit 3 := by
  rw [show 2 * Width.w16.bytes = 0 + 1 + 1 + 1 + 1 from rfl]
  simp only [spelled_succ]
  rw [show spelled base digit 0 = 0 from rfl]
  ring

theorem decimalValue_eq_spelled (w : Width) (v : Nat) : decimalValue w v = spelled 10 (nibble v) (2 * w.bytes) := by
  cases w with
  | w8 => exact (spelled_w8 10 _).symm
  | w16 => exact (spelled_w16 10 _).symm

theorem decimalValue_mod {w : Width} {v : Nat} (h : IsBcd w v) :
    decimalValue w v % lowerDigits w = spelled 10 (nibble v) (2 * w.bytes - 1) := by
  have lower := spelled_succ_mod (n := 2 * w.bytes - 1) fun k hk => h k (Nat.lt_of_lt_pred hk)
  rwa [top_digit, ← decimalValue_eq_spelled] at lower

/-- The digits of a decimal number, each in its nibble. -/
theorem decimalDigits_spelled {w : Width} {digit : Nat → Nat} (h : ∀ k, k < 2 * w.bytes → digit k ≤ 9) :
    decimalDigits w (spelled 10 digit (2 * w.bytes)) = spelled 16 digit (2 * w.bytes) := by
  cases w with
  | w8 =>
    have d0 := h 0 (by decide)
    have d1 := h 1 (by decide)
    rw [spelled_w8, spelled_w8, decimalDigits]
    omega
  | w16 =>
    have d0 := h 0 (by decide)
    have d1 := h 1 (by decide)
    have d2 := h 2 (by decide)
    have d3 := h 3 (by decide)
    rw [spelled_w16, spelled_w16]
    generalize hv : digit 0 + 10 * digit 1 + 10 ^ 2 * digit 2 + 10 ^ 3 * digit 3 = v
    have v0 : v % 10 = digit 0 := by omega
    have v1 : v / 10 % 10 = digit 1 := by omega
    have v2 : v / 100 % 10 = digit 2 := by omega
    have v3 : v / 1000 % 10 = digit 3 := by omega
    rw [decimalDigits, v0, v1, v2, v3]
    rfl

/-! ## BCD operands -/

/-- The loop adds the decimal digit `digit k` to that of `a`: the digit of its result and the carry out
of it are the decimal ones. -/
structure AddsDigit (sub : Bool) (a b c : Nat) (digit : Nat → Nat) (k : Nat) : Prop where
  augend : nibble a k ≤ 9
  result : adjustedDigit sub a b c k ≤ 9
  sum    : nibble a k + digit k + carryInto sub a b c k = adjustedDigit sub a b c k + 10 * carryInto sub a b c (k + 1)

section
variable {sub : Bool} {w : Width} {a b c n : Nat} {digit : Nat → Nat}

/-- Digit by digit decimal addition is the addition of the numbers spelled. -/
theorem spelled_add (h : ∀ k, k < n → AddsDigit sub a b c digit k) :
    spelled 10 (nibble a) n + spelled 10 digit n + c =
      spelled 10 (adjustedDigit sub a b c) n + carryInto sub a b c n * 10 ^ n := by
  induction n with
  | zero => exact (Nat.mul_one c).symm ▸ rfl
  | succ n ih =>
    have below := ih fun k hk => h k (Nat.lt_succ_of_lt hk)
    have ofDigit := (h n (Nat.lt_succ_self n)).sum
    rw [spelled_succ, spelled_succ, spelled_succ]
    linear_combination below + 10 ^ n * ofDigit

theorem spelled_add_mod (h : ∀ k, k < n → AddsDigit sub a b c digit k) :
    (spelled 10 (nibble a) n + spelled 10 digit n + c) % 10 ^ n = spelled 10 (adjustedDigit sub a b c) n := by
  rw [spelled_add h, Nat.add_mul_mod_self_right, Nat.mod_eq_of_lt (spelled_lt fun k hk => (h k hk).result)]

theorem carryInto_eq_of_addsDigit (hc : c ≤ 1) (h : ∀ k, k < n → AddsDigit sub a b c digit k) :
    carryInto sub a b c n = if 10 ^ n ≤ spelled 10 (nibble a) n + spelled 10 digit n + c then 1 else 0 := by
  have below : spelled 10 (adjustedDigit sub a b c) n < 10 ^ n := spelled_lt fun k hk => (h k hk).result
  rw [spelled_add h]
  obtain carry | carry := Nat.le_one_iff_eq_zero_or_eq_one.mp (carryInto_le_one sub a b hc n)
  · rw [carry, Nat.zero_mul, Nat.add_zero, if_neg (Nat.not_le_of_lt below)]
  · rw [carry, Nat.one_mul, if_pos (Nat.le_add_left _ _)]

end

/-- A sum of two decimal digits and a carry. -/
theorem digitTotal_eq_of_le {a b c k : Nat} (h : digitTotal false a b c k ≤ 19) :
    adjustedDigit false a b c k ≤ 9 ∧
      digitTotal false a b c k = adjustedDigit false a b c k + 10 * carryInto false a b c (k + 1) := by
  rw [carryInto]
  unfold adjustedDigit
  unfold digitTotal at h ⊢
  dsimp only
  generalize nibble a k + nibble b k + carryInto false a b c k = d at h ⊢
  simp only [Bool.false_eq_true, if_false]
  split <;> omega

/-- A decimal digit plus the complement of another and a carry: 6 more than with the nines' complement. -/
theorem digitTotal_eq_of_between {a b c k : Nat} (low : 6 ≤ digitTotal true a b c k) (high : digitTotal true a b c k ≤ 25) :
    adjustedDigit true a b c k ≤ 9 ∧
      digitTotal true a b c k = 6 + adjustedDigit true a b c k + 10 * carryInto true a b c (k + 1) := by
  rw [carryInto]
  unfold adjustedDigit
  unfold digitTotal at low high ⊢
  dsimp only
  generalize nibble a k + nibble b k + carryInto true a b c k = d at low high ⊢
  simp only [if_true]
  split <;> omega

theorem addsDigit_of_isBcd {w : Width} {a m c k : Nat} (ha : IsBcd w a) (hm : IsBcd w m) (hc : c ≤ 1) (hk : k < 2 * w.bytes) :
    AddsDigit false a m c (nibble m) k := by
  have first := ha k hk
  have second := hm k hk
  have carry := carryInto_le_one false a m hc k
  have total : digitTotal false a m c k = nibble a k + nibble m k + carryInto false a m c k := rfl
  obtain ⟨result, sum⟩ := digitTotal_eq_of_le (a := a) (b := m) (c := c) (k := k) (by omega)
  exact ⟨first, result, sum⟩

theorem nibble_complement {w : Width} {m k : Nat} (hm : m < size w) (hk : k < 2 * w.bytes) :
    nibble (size w - 1 - m) k = 15 - nibble m k := by
  unfold nibble
  cases w with
  | w8 =>
    rw [size_w8] at hm ⊢
    change k < 2 at hk
    interval_cases k <;> omega
  | w16 =>
    rw [size_w16] at hm ⊢
    change k < 4 at hk
    interval_cases k <;> omega

/-- Adding the complement's nibbles with the adjustment of a difference is adding the nines' complement of the digits. -/
theorem addsDigit_complement_of_isBcd {w : Width} {a m c k : Nat} (ha : IsBcd w a) (hm : IsBcd w m) (hlt : m < size w)
    (hc : c ≤ 1) (hk : k < 2 * w.bytes) : AddsDigit true a (size w - 1 - m) c (nines m) k := by
  have first := ha k hk
  have second := hm k hk
  have complement := nibble_complement hlt hk
  have carry := carryInto_le_one true a (size w - 1 - m) hc k
  have total : digitTotal true a (size w - 1 - m) c k =
    nibble a k + nibble (size w - 1 - m) k + carryInto true a (size w - 1 - m) c k := rfl
  obtain ⟨result, sum⟩ :=
    digitTotal_eq_of_between (a := a) (b := size w - 1 - m) (c := c) (k := k) (by omega) (by omega)
  refine ⟨first, result, ?_⟩
  rw [nines]
  omega

/-! ## The decimal sum and difference -/

section
variable {sub : Bool} {w : Width} {a b c : Nat} {digit : Nat → Nat}

theorem adjustedSum_eq_decimalDigits (h : ∀ k, k < 2 * w.bytes → AddsDigit sub a b c digit k) :
    adjustedSum sub w a b c =
      decimalDigits w ((decimalValue w a + spelled 10 digit (2 * w.bytes) + c) % decimalSize w) := by
  rw [decimalValue_eq_spelled, decimalSize, spelled_add_mod h, decimalDigits_spelled fun k hk => (h k hk).result,
    adjustedSum_eq_spelled]

theorem carryInto_eq_one_iff (hc : c ≤ 1) (h : ∀ k, k < 2 * w.bytes → AddsDigit sub a b c digit k) :
    carryInto sub a b c (2 * w.bytes) = 1 ↔ decimalSize w ≤ decimalValue w a + spelled 10 digit (2 * w.bytes) + c := by
  rw [decimalValue_eq_spelled, decimalSize, carryInto_eq_of_addsDigit hc h]
  split <;> simp [*]

/-- The carry into the top digit comes from the digits below it. -/
theorem carryInto_top (hc : c ≤ 1) (h : ∀ k, k < 2 * w.bytes → AddsDigit sub a b c digit k) :
    carryInto sub a b c (2 * w.bytes - 1) =
      if lowerDigits w ≤ decimalValue w a % lowerDigits w + spelled 10 digit (2 * w.bytes - 1) + c then 1 else 0 := by
  rw [decimalValue_mod fun k hk => (h k hk).augend, lowerDigits,
    carryInto_eq_of_addsDigit hc fun k hk => h k (Nat.lt_of_lt_pred hk)]

end

/-- The accumulator and the flags after the decimal sum of BCD operands. -/
theorem storeSum_decimal_add {w : Width} {a m : Word} (ha : a.toNat < size w) (hm : m.toNat < size w) (bcdA : IsBcd w a.toNat)
    (bcdM : IsBcd w m.toNat) (k : Bool) (c : Cpu) :
    c.storeSum w (decimalSum w false a m k) =
      let r := decimalDigits w ((decimalValue w a.toNat + decimalValue w m.toNat + k.toNat) % decimalSize w)
      { c with
        a := writtenA w c.a r
        p := { withNZ c.p w r with
          c := decide (decimalSize w ≤ decimalValue w a.toNat + decimalValue w m.toNat + k.toNat)
          v := topDigitOverflows (signedTop w a.toNat + signedTop w m.toNat +
            if lowerDigits w ≤ decimalValue w a.toNat % lowerDigits w + decimalValue w m.toNat % lowerDigits w + k.toNat
            then 1 else 0) } } := by
  have digits : ∀ j, j < 2 * w.bytes → AddsDigit false a.toNat m.toNat k.toNat (nibble m.toNat) j :=
    fun _ => addsDigit_of_isBcd bcdA bcdM k.toNat_le
  have carry := carryInto_eq_one_iff k.toNat_le digits
  rw [← decimalValue_eq_spelled] at carry
  rw [storeSum_decimal ha hm, adjustedSum_eq_decimalDigits digits, ← decimalValue_eq_spelled, decide_eq_decide.mpr carry,
    adjustedOverflow, carryInto_top k.toNat_le digits, ← decimalValue_mod bcdM]
  norm_cast

/-- The top digits of a difference: those of a sum with the complement. -/
theorem signedTop_complement {w : Width} {m : Nat} (h : m < size w) : signedTop w (size w - 1 - m) = -signedTop w m - 1 := by
  have digit : nibble m (2 * w.bytes - 1) < 16 := Nat.mod_lt _ (by decide)
  unfold signedTop
  dsimp only
  rw [nibble_complement h (top_digit w ▸ Nat.lt_succ_self _)]
  split <;> split <;> omega

/-- The accumulator and the flags after the decimal difference of BCD operands. -/
theorem storeSum_decimal_sub {w : Width} {a m : Word} (ha : a.toNat < size w) (hm : m.toNat < size w) (bcdA : IsBcd w a.toNat)
    (bcdM : IsBcd w m.toNat) (k : Bool) (c : Cpu) :
    c.storeSum w (decimalSum w true a (w.complement m) k) =
      let r := decimalDigits w
        ((decimalValue w a.toNat + decimalSize w - decimalValue w m.toNat - 1 + k.toNat) % decimalSize w)
      { c with
        a := writtenA w c.a r
        p := { withNZ c.p w r with
          c := decide (decimalValue w m.toNat + 1 ≤ decimalValue w a.toNat + k.toNat)
          v := topDigitOverflows (signedTop w a.toNat - signedTop w m.toNat - 1 +
            if decimalValue w m.toNat % lowerDigits w + 1 ≤ decimalValue w a.toNat % lowerDigits w + k.toNat
            then 1 else 0) } } := by
  have complement := toNat_complement hm
  have digits : ∀ j, j < 2 * w.bytes →
      AddsDigit true a.toNat (w.complement m).toNat k.toNat (nines m.toNat) j :=
    fun _ => complement ▸ addsDigit_complement_of_isBcd bcdA bcdM hm k.toNat_le
  have whole := spelled_nines bcdM
  have belowTop := spelled_nines (n := 2 * w.bytes - 1) fun j hj => bcdM j (Nat.lt_of_lt_pred hj)
  rw [← decimalValue_eq_spelled, ← decimalSize] at whole
  rw [← decimalValue_mod bcdM, ← lowerDigits] at belowTop
  have carry : carryInto true a.toNat (w.complement m).toNat k.toNat (2 * w.bytes) = 1 ↔
      decimalValue w m.toNat + 1 ≤ decimalValue w a.toNat + k.toNat := by
    rw [carryInto_eq_one_iff k.toNat_le digits]
    omega
  have lower : lowerDigits w ≤ decimalValue w a.toNat % lowerDigits w +
        spelled 10 (nines m.toNat) (2 * w.bytes - 1) + k.toNat ↔
      decimalValue w m.toNat % lowerDigits w + 1 ≤ decimalValue w a.toNat % lowerDigits w + k.toNat := by omega
  have value : decimalValue w a.toNat + spelled 10 (nines m.toNat) (2 * w.bytes) + k.toNat =
      decimalValue w a.toNat + decimalSize w - decimalValue w m.toNat - 1 + k.toNat := by omega
  have signs (t : Int) : signedTop w a.toNat + (-signedTop w m.toNat - 1) + t =
      signedTop w a.toNat - signedTop w m.toNat - 1 + t := by ring
  rw [storeSum_decimal ha (by omega), adjustedSum_eq_decimalDigits digits, value, decide_eq_decide.mpr carry, adjustedOverflow,
    carryInto_top k.toNat_le digits, if_congr lower rfl rfl, complement, signedTop_complement hm, signs]
  norm_cast

/-! ## The instructions -/

theorem isBcd_iff (w : Width) (v : Word) : isBcd w v = true ↔ IsBcd w v.toNat := by
  simp [isBcd, IsBcd, nibble]

/-- Where an adder draws (R250). -/
theorem drawsSum_iff (p : Params) (w : Width) (m : Word) (c : Cpu) :
    drawsSum p w m c = true ↔ p.decimalNonBcd = .draw ∧ c.p.d = true ∧ ¬(IsBcd w (low w c.a) ∧ IsBcd w m.toNat) := by
  rw [drawsSum, Bool.and_eq_true, Bool.and_eq_true, decide_eq_true_iff, Bool.not_eq_true', ← Bool.not_eq_true, Bool.and_eq_true,
    isBcd_iff, isBcd_iff, toNat_getA, and_assoc]

theorem drawsSum_algorithm {p : Params} (h : p.decimalNonBcd = .algorithm) (w : Width) (m : Word) (c : Cpu) :
    drawsSum p w m c = false := by simp [drawsSum, h]

theorem adderSum_decimal {w : Width} {sub : Bool} {m : Word} {c : Cpu} (h : c.p.d = true) :
    adderSum w sub m c = decimalSum w sub (c.getA w) (if sub then w.complement m else m) c.p.c := by
  rw [adderSum_eq, h]
  rfl

/-- Settles O23: the loop is the digit algorithm, and on BCD digits that is decimal addition, of the nines' complement for SBC. -/
theorem decimalAddSubtract : Obligations.DecimalAddSubtract := by
  refine ⟨fun i s hd algorithm => ?_, fun i s hd => ?_⟩
  · have operand := toNat_readOperand_lt i.operand s.cpu.mw s
    refine ⟨fun h => readsOperand_of_adder (exec_adc i s h) (drawsSum_algorithm algorithm _ _ _) ?_,
      fun h => readsOperand_of_adder (exec_sbc i s h) (drawsSum_algorithm algorithm _ _ _) ?_⟩
    · rw [adderSum_decimal hd, if_neg (by decide), storeSum_decimal (toNat_getA_lt _ _) operand, toNat_getA]
    · have complement := toNat_complement operand
      rw [adderSum_decimal hd, if_pos rfl, storeSum_decimal (toNat_getA_lt _ _) (by omega), toNat_getA, complement]
  · intro w a m k ends bcdA bcdM
    have operand := toNat_readOperand_lt i.operand w s
    have bcd : IsBcd w (s.cpu.getA w).toNat := (toNat_getA s.cpu w).symm ▸ bcdA
    have noDraw : drawsSum s.params w (readOperand i.operand w s).value s.cpu = false := by
      rw [← Bool.not_eq_true, drawsSum_iff]
      exact fun ⟨_, _, nonBcd⟩ => nonBcd ⟨bcdA, bcdM⟩
    refine ⟨fun h => readsOperand_of_adder (exec_adc i s h) noDraw ?_,
      fun h => readsOperand_of_adder (exec_sbc i s h) noDraw ?_⟩
    · rw [adderSum_decimal hd, if_neg (by decide), storeSum_decimal_add (toNat_getA_lt _ _) operand bcd bcdM, toNat_getA]
    · rw [adderSum_decimal hd, if_pos rfl, storeSum_decimal_sub (toNat_getA_lt _ _) operand bcd bcdM, toNat_getA]

/-- A sum that is the draw takes the next free value (log 9). -/
theorem addTo_of_draws {w : Width} {sub : Bool} {m : Word} {s : State} (h : drawsSum s.params w m s.cpu = true) :
    s.addTo w sub m =
      { s.mapCpu (Cpu.storeSum w ⟨w.trunc (Config.decimalDraw s.draws).1, (Config.decimalDraw s.draws).2.1,
          (Config.decimalDraw s.draws).2.2⟩) with draws := s.draws + 1 } := by
  rw [State.addTo, h]
  rfl

/-- Either adder, where it draws, ends with the free value and one draw counted. -/
theorem draws_of_adder {i : Instr} {s : State} {w : Width} {sub : Bool}
    (h : exec i s = .next (readInstr i.opcode i.operand w (fun m t => t.addTo w sub m) s))
    (hd : drawsSum s.params w (readOperand i.operand w s).value s.cpu = true) :
    let f := Config.decimalDraw s.draws
    ∃ t, exec i s = .next t ∧
      t.cpu = advance i s { s.cpu with
        a := writtenA w s.cpu.a (low w f.1), p := { withNZ s.cpu.p w (low w f.1) with c := f.2.1, v := f.2.2 } } ∧
      t.bus = (readOperand i.operand w s).st.bus ∧ MemoryKept s t ∧ t.draws = s.draws + 1 ∧
      Frame s { t with draws := s.draws } := by
  have reads := readOperand_readsTo i.operand w s
  obtain ⟨memory, run, pending, prev, mark, draws, rest⟩ := kept_of_reads reads _ _
  rw [readInstr, addTo_of_draws (by rwa [reads.params_eq, reads.cpu_eq])] at h
  refine ⟨_, h, retire_cpu_eq_advance i _ s ?_, rfl, memory, congrArg (· + 1) draws, run, pending, prev, mark, rfl, rest⟩
  rw [draws, State.mapCpu_cpu, reads.cpu_eq]
  exact storeSum_eq s.cpu w (low_trunc w _) rfl rfl

/-- Settles O24: operands that are not both BCD take the draw. -/
theorem nonBcdDraw : Obligations.NonBcdDraw := by
  intro i s h hd draw w o nonBcd
  have draws : drawsSum s.params w o.value s.cpu = true := (drawsSum_iff _ _ _ _).mpr ⟨draw, hd, nonBcd⟩
  obtain adc | sbc := h
  · exact draws_of_adder (exec_adc i s adc) draws
  · exact draws_of_adder (exec_sbc i s sbc) draws

end Sys2Proof.Claims
end

section
/-! PROOFS. The stack as numbers: pushes and pulls of several bytes, S at the end of an instruction, and that pulling what was pushed
gives it back (R340 to R342). -/

namespace Sys2Proof.Machine

/-! ## Several pushes and pulls -/

/-- Push bytes given as numbers, the first one first. -/
def State.pushList (nw : Bool) : List Nat → State → State
  | [], s => s
  | v :: vs, s => State.pushList nw vs (s.push8 nw (BitVec.ofNat 8 v))

/-- Pull a count of bytes: their numbers in the order they are pulled, and the state after. -/
def State.pullList (nw : Bool) : Nat → State → List Nat × State
  | 0, s => ([], s)
  | n + 1, s => ((s.pull8 nw).1.toNat :: ((s.pull8 nw).2.pullList nw n).1, ((s.pull8 nw).2.pullList nw n).2)

theorem State.push8_eq_pushList (nw : Bool) (v : Byte) (s : State) : s.push8 nw v = s.pushList nw [v.toNat] :=
  congrArg (s.push8 nw) (ofNat_toNat_self v).symm

/-- A word is pushed as the two bytes of its number, the high one first (R342). -/
theorem State.push16_eq_pushList (nw : Bool) (v : Word) (s : State) :
    s.push16 nw v = s.pushList nw (Claims.pushBytes .w16 v.toNat) := by
  have lo : BitVec.ofNat 8 (v.toNat % 256) = wordLo v := by
    rw [wordLo_eq_ofNat]
    exact BitVec.eq_of_toNat_eq (by simp)
  rw [State.push16, wordHi_eq_ofNat, ← lo]
  rfl

/-- A word is pulled as two bytes, the low one first (R342). -/
theorem State.pull16_eq_pullList (nw : Bool) (s : State) :
    s.pull16 nw = (BitVec.ofNat 16 (Claims.pulledNumber (s.pullList nw 2).1), (s.pullList nw 2).2) :=
  congrArg (·, _) (wordOf_eq_ofNat _ _)

theorem State.pushList_movesTo (nw : Bool) (l : List Nat) (s : State) : s.MovesTo (s.pushList nw l) := by
  induction l generalizing s with
  | nil => exact .refl s
  | cons v vs ih => exact (s.push8_movesTo nw _).trans (ih _)

theorem State.pullList_movesTo (nw : Bool) (n : Nat) (s : State) : s.MovesTo (s.pullList nw n).2 := by
  induction n generalizing s with
  | zero => exact .refl s
  | succ n ih => exact (s.pull8_movesTo nw).trans (ih _)

theorem State.pushList_cpu (nw : Bool) (l : List Nat) (s : State) :
    (s.pushList nw l).cpu = { s.cpu with s := (s.pushList nw l).cpu.s } := by
  induction l generalizing s with
  | nil => rfl
  | cons v vs ih => exact ih (s.push8 nw _)

theorem State.pullList_cpu (nw : Bool) (n : Nat) (s : State) :
    (s.pullList nw n).2.cpu = { s.cpu with s := (s.pullList nw n).2.cpu.s } := by
  induction n generalizing s with
  | zero => rfl
  | succ n ih => exact ih (s.pull8 nw).2

end Sys2Proof.Machine

namespace Sys2Proof.Claims
open Sys2Proof.Machine

/-! ## The statements' stack is the model's -/

theorem toNat_stackDown (nw : Bool) (c : Cpu) : (c.stackDown nw).s.toNat = down c.p.e nw c.s.toNat := by
  have less : (c.s - 1).toNat = (c.s.toNat + 65535) % 65536 := by
    rw [BitVec.toNat_sub, Nat.add_comm]
    rfl
  rw [Cpu.stackDown_s, down, apply_ite BitVec.toNat, toNat_pageOne, less, Nat.mod_mod_of_dvd _ (by decide)]
  congr 2
  omega

theorem toNat_stackUp (nw : Bool) (c : Cpu) : (c.stackUp nw).s.toNat = up c.p.e nw c.s.toNat := by
  have more : (c.s + 1).toNat = (c.s.toNat + 1) % 65536 := BitVec.toNat_add _ _
  rw [Cpu.stackUp_s, up, apply_ite BitVec.toNat, toNat_pageOne, more, Nat.mod_mod_of_dvd _ (by decide)]

/-- The place of a stack access lies in bank 0. -/
theorem addr24_zero_eq_ofNat (v : Word) : addr24 0 v = BitVec.ofNat 24 v.toNat := by
  rw [← toNat_addr24_zero, ofNat_toNat_self]

theorem restoreStackPage_eq (nw : Bool) (c : Cpu) :
    c.restoreStackPage nw = { c with s := settle c.p.e nw c.s.toNat } := by
  rw [Cpu.restoreStackPage, settle, apply_ite (BitVec.ofNat 16), ← toNat_pageOne, ofNat_toNat_self, ofNat_toNat_self]
  split <;> rfl

theorem pushAll_eq (nw : Bool) (l : List Nat) (s : State) :
    pushAll s.cpu.p.e nw l s.bus s.cpu.s.toNat = ((s.pushList nw l).bus, (s.pushList nw l).cpu.s.toNat) := by
  induction l generalizing s with
  | nil => rfl
  | cons v vs ih =>
    rw [pushAll, ← addr24_zero_eq_ofNat, ← toNat_stackDown]
    exact ih (s.push8 nw (BitVec.ofNat 8 v))

theorem pullAll_eq (nw : Bool) (n : Nat) (s : State) :
    pullAll s.params.wmaddReadable s.cpu.p.e nw n s.bus s.cpu.s.toNat =
      ((s.pullList nw n).1, (s.pullList nw n).2.bus, (s.pullList nw n).2.cpu.s.toNat) := by
  induction n generalizing s with
  | zero => rfl
  | succ n ih =>
    have rest := ih (s.pull8 nw).2
    rw [pullAll, ← toNat_stackUp, ← addr24_zero_eq_ofNat]
    exact congrArg (fun k => ((s.pull8 nw).1.toNat :: k.1, k.2)) rest

/-- The registers at the end of an instruction that pushed: S settled, the others as before (R340). -/
theorem restore_pushList (nw : Bool) (l : List Nat) (s : State) :
    (s.pushList nw l).cpu.restoreStackPage nw = { s.cpu with s := settle s.cpu.p.e nw (s.pushList nw l).cpu.s.toNat } := by
  rw [restoreStackPage_eq, State.pushList_cpu]

theorem restore_pullList (nw : Bool) (n : Nat) (s : State) :
    (s.pullList nw n).2.cpu.restoreStackPage nw =
      { s.cpu with s := settle s.cpu.p.e nw (s.pullList nw n).2.cpu.s.toNat } := by
  rw [restoreStackPage_eq, State.pullList_cpu]

/-! ## What pushes and pulls change of memory -/

/-- Pushes change no byte outside the cells they store to. -/
theorem pushAll_cellByte {e nw : Bool} {l : List Nat} {b : Bus} {sp : Nat} {c : CellId} (h : c ∉ pushCells e nw l b sp) :
    (pushAll e nw l b sp).1.cellByte c = b.cellByte c := by
  induction l generalizing b sp with
  | nil => rfl
  | cons v vs ih =>
    obtain ⟨first, later⟩ := not_or.mp (mt List.mem_append.mpr h)
    exact (ih later).trans (Bus.write_cellByte_other _ _ _ _ fun e => first (Option.mem_toList.mpr e))

theorem pullAll_cellByte (r e nw : Bool) (n : Nat) (b : Bus) (sp : Nat) (c : CellId) :
    (pullAll r e nw n b sp).2.1.cellByte c = b.cellByte c := by
  induction n generalizing b sp with
  | zero => rfl
  | succ n ih => exact (ih _ _).trans (Bus.read_cellByte _ _ _ _ _)

theorem pushList_cellByte {nw : Bool} {l : List Nat} {s : State} {c : CellId}
    (h : c ∉ pushCells s.cpu.p.e nw l s.bus s.cpu.s.toNat) : (s.pushList nw l).bus.cellByte c = s.bus.cellByte c := by
  have kept := pushAll_cellByte h
  rwa [pushAll_eq] at kept

theorem pullList_memoryKept (nw : Bool) (n : Nat) (s : State) : MemoryKept s (s.pullList nw n).2 := by
  have kept := pullAll_cellByte s.params.wmaddReadable s.cpu.p.e nw n s.bus s.cpu.s.toNat
  rwa [pullAll_eq] at kept

/-- Accesses and register updates leave the frame alone, whatever the registers and the count of cycles become. -/
theorem frame_of_moves {s t : State} (h : s.MovesTo t) (c : Cpu) (n : Nat) : Frame s { t with cpu := c, cycles := n } := by
  obtain ⟨_, _, _, rfl, cart, _, _, _, draw⟩ := h
  exact ⟨rfl, rfl, rfl, rfl, rfl, rfl, rfl, cart, draw⟩

/-! ## The instructions that push or pull -/

section
variable {i : Instr} {s : State} {f : Cpu → Cpu} {cycles : Nat}

/-- An instruction that pushes, settles S and then changes other registers. -/
theorem pushes_of_pushList {bytes : List Nat} {t : State} (ht : t = s.pushList (s.params.noWrap.contains i.opcode) bytes)
    (h : exec i s = .next { t with cpu := f (t.cpu.restoreStackPage (s.params.noWrap.contains i.opcode)), cycles := cycles })
    (hf : ∀ v, f { s.cpu with s := v } = { f s.cpu with s := v }) : Pushes i s s.bus bytes (f s.cpu) := by
  subst ht
  unfold Pushes
  dsimp only
  rw [pushAll_eq]
  refine ⟨_, h, ?_, rfl, fun _ => pushList_cellByte, frame_of_moves (s.pushList_movesTo _ _) _ _⟩
  dsimp only
  rw [restore_pushList]
  exact hf _

/-- An instruction that pulls, settles S and then changes other registers. -/
theorem pulls_of_pullList {n : Nat} {regs : List Nat → Cpu} {t : State}
    (ht : t = (s.pullList (s.params.noWrap.contains i.opcode) n).2)
    (h : exec i s = .next { t with cpu := f (t.cpu.restoreStackPage (s.params.noWrap.contains i.opcode)), cycles := cycles })
    (hf : ∀ v, f { s.cpu with s := v } = { regs (s.pullList (s.params.noWrap.contains i.opcode) n).1 with s := v }) :
    Pulls i s n regs Frame := by
  subst ht
  unfold Pulls
  dsimp only
  rw [pullAll_eq]
  refine ⟨_, h, ?_, rfl, pullList_memoryKept _ n s, frame_of_moves (s.pullList_movesTo _ _) _ _⟩
  dsimp only
  rw [restore_pullList]
  exact hf _

end

/-! ## Pulling what was pushed -/

/-- The offsets of bank 0 that `n` pushes from S write to. -/
def places (e nw : Bool) : Nat → Nat → List Nat
  | 0, _ => []
  | n + 1, sp => sp :: places e nw n (down e nw sp)

section
variable {e nw : Bool} {l : List Nat} {b : Bus} {sp : Nat}

/-- The low offsets of bank 0 are WRAM (R68, R80). -/
theorem locate_low (h : sp < 0x2000) :
    getTarget (BitVec.ofNat 24 sp) = .wramA ∧ busALocal (BitVec.ofNat 24 sp) = some sp := by
  have number : (BitVec.ofNat 24 sp).toNat = sp := by
    rw [BitVec.toNat_ofNat]
    omega
  rw [getTarget_eq, busALocal_eq, number, if_pos (by omega), if_pos (by omega), ioTarget_eq, if_pos (by omega)]
  exact ⟨rfl, congrArg some (Nat.mod_eq_of_lt h)⟩

theorem storeCell_low (b : Bus) (h : sp < 0x2000) : b.storeCell (BitVec.ofNat 24 sp) = some (.wram, sp) := by
  obtain ⟨target, place⟩ := locate_low h
  simp [Bus.storeCell, Bus.locate, target, place]

theorem read_low (r nd : Bool) (b : Bus) (h : sp < 0x2000) : (b.read r nd (BitVec.ofNat 24 sp)).1 = b.cellByte (.wram, sp) := by
  obtain ⟨target, place⟩ := locate_low h
  simp [Bus.read, Bus.deviceRead, target, place]

theorem pushCells_low (h : ∀ a ∈ places e nw l.length sp, a < 0x2000) :
    pushCells e nw l b sp = (places e nw l.length sp).map (Region.wram, ·) := by
  induction l generalizing b sp with
  | nil => rfl
  | cons v vs ih =>
    obtain ⟨here, later⟩ := List.forall_mem_cons.mp h
    rw [pushCells, storeCell_low b here, ih later]
    rfl

/-- Pulls one byte more: after the others. -/
theorem pullAll_succ (r e nw : Bool) (n : Nat) (b : Bus) (sp : Nat) :
    pullAll r e nw (n + 1) b sp =
      let k := pullAll r e nw n b sp
      let last := k.2.1.read r false (BitVec.ofNat 24 (up e nw k.2.2))
      (k.1 ++ [last.1.toNat], last.2, up e nw k.2.2) := by
  induction n generalizing b sp with
  | zero => rfl
  | succ n ih =>
    rw [pullAll, ih]
    rfl

/-- Bytes pushed to WRAM cells of their own come back in the opposite order, from any bus with the same memory, and S with them. -/
theorem pullAll_pushAll (r : Bool) {d : Bus} (hw : b.wf = true) (bytes : ∀ v ∈ l, v < 256)
    (low : ∀ a ∈ places e nw l.length sp, a < 0x2000 ∧ up e nw (down e nw a) = a)
    (distinct : (places e nw l.length sp).Nodup) (same : ∀ c, d.cellByte c = (pushAll e nw l b sp).1.cellByte c) :
    (pullAll r e nw l.length d (pushAll e nw l b sp).2).1 = l.reverse ∧
      (pullAll r e nw l.length d (pushAll e nw l b sp).2).2.2 = sp := by
  induction l generalizing b sp with
  | nil => exact ⟨rfl, rfl⟩
  | cons v vs ih =>
    obtain ⟨byte, bytes⟩ := List.forall_mem_cons.mp bytes
    obtain ⟨⟨lowHere, back⟩, low⟩ := List.forall_mem_cons.mp low
    obtain ⟨new, distinct⟩ := List.nodup_cons.mp distinct
    obtain ⟨values, stack⟩ := ih (Bus.write_wf _ _ _ hw) bytes low distinct same
    have kept : (Region.wram, sp) ∉ pushCells e nw vs (b.write (BitVec.ofNat 24 sp) (BitVec.ofNat 8 v)) (down e nw sp) := by
      rw [pushCells_low fun a h => (low a h).1]
      simpa using new
    have stored : d.cellByte (.wram, sp) = BitVec.ofNat 8 v := by
      rw [same, pushAll, pushAll_cellByte kept, Bus.write_cellByte_same _ _ _ _ hw (storeCell_low b lowHere)]
    rw [List.length_cons, pushAll, pullAll_succ]
    dsimp only
    rw [stack, back, read_low _ _ _ lowHere, pullAll_cellByte, stored, values, BitVec.toNat_ofNat, Nat.mod_eq_of_lt byte,
      List.reverse_cons]
    exact ⟨rfl, rfl⟩

end

end Sys2Proof.Claims
end

section
/-! PROOFS. Branches, calls and returns (R300 to R308, R312 to R315). -/

namespace Sys2Proof.Claims
open Sys2Proof.Machine

/-! ## Branches -/

theorem branchTarget_eq_ofInt (rel : Byte) (c : Cpu) : branchTarget rel c = BitVec.ofInt 16 (c.pc.toNat + 2 + rel.toInt) := by
  rw [BitVec.ofInt_add, BitVec.ofInt_add, BitVec.ofInt_natCast, ofNat_toNat_self]
  rfl

theorem nextPc_of_two_bytes {op : Byte} (c : Cpu) (h : totalFetchBytes c.widths op = 2) :
    nextPc op c = BitVec.ofInt 16 (c.pc.toNat + 2) := by
  rw [nextPc, h, BitVec.ofInt_add, BitVec.ofInt_natCast, ofNat_toNat_self]
  rfl

/-- A branch of two bytes goes to its target where its condition holds, and to the next instruction where not. -/
theorem branches_of_branch {i : Instr} {op rel : Byte} {s : State}
    (h : exec i s = .next (branch op rel (branchCondition i s.cpu.p) s)) (len : totalFetchBytes s.cpu.widths op = 2) :
    ∃ t, exec i s = .next t ∧
      t.cpu = { s.cpu with pc := BitVec.ofInt 16 (s.cpu.pc.toNat + 2 + if branchCondition i s.cpu.p then rel.toInt else 0) } ∧
      t.bus = s.bus ∧ Frame s t := by
  have pc : (if branchCondition i s.cpu.p then branchTarget rel s.cpu else nextPc op s.cpu) =
      BitVec.ofInt 16 (s.cpu.pc.toNat + 2 + if branchCondition i s.cpu.p then rel.toInt else 0) := by
    rw [branchTarget_eq_ofInt, nextPc_of_two_bytes s.cpu len]
    split
    · rfl
    · rw [Int.add_zero]
  exact ⟨_, h, congrArg (fun v => { s.cpu with pc := v }) pc, rfl, frame_of_accesses (.refl s) _ _⟩

/-- Settles O31: each of the nine is a branch of two bytes on its own condition. -/
theorem branches : Obligations.Branches := by
  intro rel i s hi
  simp only [List.mem_cons, List.not_mem_nil, or_false] at hi
  rcases hi with rfl | rfl | rfl | rfl | rfl | rfl | rfl | rfl | rfl <;> exact branches_of_branch rfl rfl

/-! ## Calls and returns -/

theorem bankOf_addr24 (bank : Byte) (off : Word) : bankOf (addr24 bank off) = bank := by
  refine BitVec.eq_of_toNat_eq ?_
  rw [toNat_bankOf, toNat_addr24]
  omega

/-- A word read on the bus is the pointer the CPU reads in a bank (R188, R190). -/
theorem wordRead_inBank (bank : Byte) (n : Nat) (s : State) :
    wordRead s.params.wmaddReadable (bank.toNat * 65536 + n % 65536) (bank.toNat * 65536 + (n + 1) % 65536) s.bus =
      ((s.readPtr bank (BitVec.ofNat 16 n)).1.toNat, (s.readPtr bank (BitVec.ofNat 16 n)).2.bus) :=
  congrArg (fun p => (p.1, p.2.bus)) (pointer16_inBank bank n s)

/-- The offset of the last byte of an instruction, as the calls push it (R312, R313). -/
theorem push16_last (nw : Bool) (c : Cpu) (n : Nat) (s : State) :
    s.push16 nw (c.pc + BitVec.ofNat 16 n) = s.pushList nw (pushBytes .w16 ((c.pc.toNat + n) % 65536)) := by
  have number : (c.pc + BitVec.ofNat 16 n).toNat = (c.pc.toNat + n) % 65536 := by
    rw [BitVec.toNat_add, BitVec.toNat_ofNat, Nat.add_mod_mod]
  rw [State.push16_eq_pushList, number]

theorem jsrAbs_pushes (a : Word) (s : State) :
    Pushes (.jsrAbs a) s s.bus (pushBytes .w16 ((s.cpu.pc.toNat + 2) % 65536)) { s.cpu with pc := a } :=
  pushes_of_pushList (push16_last _ s.cpu 2 s) rfl (f := fun c => { c with pc := a }) fun _ => rfl

theorem jsl_pushes (l : Addr) (s : State) :
    Pushes (.jsl l) s s.bus (s.cpu.pb.toNat :: pushBytes .w16 ((s.cpu.pc.toNat + 3) % 65536))
      { s.cpu with pb := BitVec.ofNat 8 (l.toNat / 65536), pc := BitVec.ofNat 16 l.toNat } := by
  rw [← bankOf_eq_ofNat, ← offsetOf_eq_ofNat]
  refine pushes_of_pushList (t := (s.push8 _ s.cpu.pb).push16 _ (s.cpu.pc + 3)) ?_ rfl
    (f := fun c => { c with pb := bankOf l, pc := offsetOf l }) fun _ => rfl
  rw [State.push8_eq_pushList]
  exact push16_last _ s.cpu 3 _

/-- JSR (addr,X) reads its pointer after its pushes (R312). -/
theorem jsrAbsIndX_calls (a : Word) (s : State) :
    let c := s.cpu
    let bytes := pushBytes .w16 ((c.pc.toNat + 2) % 65536)
    let nw := s.params.noWrap.contains 0xFC
    let pushed := pushAll c.p.e nw bytes s.bus c.s.toNat
    let place := fun k => c.pb.toNat * 65536 + (a.toNat + c.x.toNat + k) % 65536
    let q := wordRead s.params.wmaddReadable (place 0) (place 1) pushed.1
    ∃ t, exec (.jsrAbsIndX a) s = .next t ∧
      t.cpu = { c with s := settle c.p.e nw pushed.2, pc := BitVec.ofNat 16 q.1 } ∧ t.bus = q.2 ∧
      (∀ k, k ∉ pushCells c.p.e nw bytes s.bus c.s.toNat → t.bus.cellByte k = s.bus.cellByte k) ∧ Frame s t := by
  intro c bytes nw pushed place q
  have pushes : s.push16 nw (c.pc + 2) = s.pushList nw bytes := push16_last nw c 2 s
  have moves := s.pushList_movesTo nw bytes
  have stacked : pushed = ((s.pushList nw bytes).bus, (s.pushList nw bytes).cpu.s.toNat) := pushAll_eq nw bytes s
  have restored := restore_pushList nw bytes s
  have kept := fun k => pushList_cellByte (nw := nw) (l := bytes) (s := s) (c := k)
  rw [← pushes] at moves stacked restored kept
  have index : BitVec.ofNat 16 (a.toNat + c.x.toNat) = a + c.x := by
    rw [BitVec.ofNat_add, ofNat_toNat_self, ofNat_toNat_self]
  have pointer := wordRead_inBank c.pb (a.toNat + c.x.toNat) (s.push16 nw (c.pc + 2))
  rw [State.push16_params, index] at pointer
  have reads := (s.push16 nw (c.pc + 2)).readPtr_readsTo c.pb (a + c.x)
  simp only [q, place, stacked, Nat.add_zero]
  rw [pointer, ofNat_toNat_self]
  refine ⟨_, rfl, ?_, rfl, fun k hk => (reads.cellByte_eq k).trans (kept k hk), frame_of_moves (moves.trans reads.movesTo) _ _⟩
  exact congrArg (fun d : Cpu => { d with pc := ((s.push16 nw (c.pc + 2)).readPtr c.pb (a + c.x)).1 }) restored

theorem rts_pulls (s : State) :
    Pulls .rts s 2 (fun l => { s.cpu with pc := BitVec.ofNat 16 (pulledNumber l + 1) }) Frame := by
  refine pulls_of_pullList (f := fun c => { c with pc := (s.pull16 _).1 + 1 }) rfl rfl fun v => ?_
  rw [State.pull16_eq_pullList, BitVec.ofNat_add]
  rfl

theorem rtl_pulls (s : State) :
    Pulls .rtl s 3
      (fun l => { s.cpu with pc := BitVec.ofNat 16 (pulledNumber l + 1), pb := BitVec.ofNat 8 (l.getD 2 0) }) Frame := by
  refine pulls_of_pullList
    (f := fun c => { c with pc := offsetOf _, pb := bankOf (addr24 ((s.pull16 _).2.pull8 _).1 ((s.pull16 _).1 + 1)) }) rfl rfl
    fun v => ?_
  rw [bankOf_addr24, offsetOf_addr24, State.pull16_eq_pullList, ← ofNat_toNat_self (State.pull8 _ _).1, BitVec.ofNat_add]
  rfl

/-- Settles O33: the calls push their bytes and the returns pull them; JSR (addr,X) reads its pointer in between. -/
theorem callsAndReturns : Obligations.CallsAndReturns :=
  ⟨fun a l s => ⟨jsrAbs_pushes a s, jsl_pushes l s, jsrAbsIndX_calls a s⟩, fun s => ⟨rts_pulls s, rtl_pulls s⟩⟩

/-! ## A call and its return -/

/-- In emulation mode the invariant holds S in page 1 (R42). -/
theorem page_of_inv {c : Cpu} (h : c.inv = true) (he : c.p.e = true) : c.s.toNat / 256 = 1 := by
  obtain ⟨_, _, high⟩ := ((Cpu.inv_iff c).mp h).1 he
  rw [toNat_div_eq_wordHi, high]
  rfl

theorem down_eq {e : Bool} (sp : Nat) : down e false sp = if e then 256 + (sp + 255) % 256 else (sp + 65535) % 65536 := by
  rw [down, Bool.not_false, Bool.and_true]

theorem up_eq {e : Bool} (sp : Nat) : up e false sp = if e then 256 + (sp + 1) % 256 else (sp + 1) % 65536 := by
  rw [up, Bool.not_false, Bool.and_true]

theorem down_page {e : Bool} {sp : Nat} : e = true → down e false sp / 256 = 1 := by
  rintro rfl
  rw [down_eq, if_pos rfl]
  omega

theorem up_down {e : Bool} {sp : Nat} (page : e = true → sp / 256 = 1) (h : sp < 65536) :
    up e false (down e false sp) = sp := by
  rw [up_eq, down_eq]
  cases e with
  | false =>
    simp only [Bool.false_eq_true, if_false]
    omega
  | true =>
    have page := page rfl
    simp only [if_true]
    omega

theorem ne_down {e : Bool} (sp : Nat) : sp ≠ down e false sp := by
  rw [down_eq]
  split <;> omega

theorem down_low {e : Bool} {sp : Nat} (pos : 1 ≤ sp) (low : sp < 0x2000) : down e false sp < 0x2000 := by
  rw [down_eq]
  split <;> omega

/-- Two pushes from a stack in the low WRAM of bank 0 go to places of their own, and the pulls come back to them. -/
theorem places_two {e : Bool} {sp : Nat} (page : e = true → sp / 256 = 1) (pos : 1 ≤ sp) (low : sp < 0x2000) :
    (∀ a ∈ places e false 2 sp, a < 0x2000 ∧ up e false (down e false a) = a) ∧ (places e false 2 sp).Nodup := by
  have next : down e false sp < 0x2000 := down_low pos low
  have first : up e false (down e false sp) = sp := up_down page (by omega)
  have second : up e false (down e false (down e false sp)) = down e false sp := up_down down_page (by omega)
  exact ⟨List.forall_mem_cons.mpr ⟨⟨low, first⟩, List.forall_mem_singleton.mpr ⟨next, second⟩⟩,
    List.nodup_cons.mpr ⟨mt List.mem_singleton.mp (ne_down sp), List.nodup_singleton _⟩⟩

/-- The bytes of a word come back as its number (R342). -/
theorem pulledNumber_pushBytes (v : Nat) : pulledNumber (pushBytes .w16 v).reverse = v := Nat.mod_add_div v 256

/-- Where the accesses wrap, nothing is left to settle (R340). -/
theorem settle_wrapping (e : Bool) (v : Word) : settle e false v.toNat = v := by
  rw [settle, Bool.and_false]
  exact ofNat_toNat_self v

/-- After pushes whose accesses wrap, S is where they leave it (R340). -/
theorem toNat_settle_pushAll (l : List Nat) (s : State) :
    (settle s.cpu.p.e false (pushAll s.cpu.p.e false l s.bus s.cpu.s.toNat).2).toNat =
      (pushAll s.cpu.p.e false l s.bus s.cpu.s.toNat).2 := by
  rw [pushAll_eq, settle_wrapping]

/-- Settles O34: the return pulls the two bytes the call pushed, from the cells they were pushed to. -/
theorem callThenReturn : Obligations.CallThenReturn := by
  intro a s inv noWrap pos low
  obtain ⟨registers, wf, _⟩ := (State.inv_iff s).mp inv
  obtain ⟨own, distinct⟩ := places_two (page_of_inv registers) pos low
  have wraps (op : Byte) : s.params.noWrap.contains op = false := by rw [noWrap]; rfl
  have jsr := jsrAbs_pushes a s
  generalize hlast : (s.cpu.pc.toNat + 2) % 65536 = last at jsr
  have bytes : ∀ v ∈ pushBytes .w16 last, v < 256 :=
    List.forall_mem_cons.mpr ⟨by omega, List.forall_mem_singleton.mpr (by omega)⟩
  obtain ⟨values, top⟩ := pullAll_pushAll s.params.wmaddReadable wf bytes own distinct fun _ => rfl
  rw [show (pushBytes .w16 last).length = 2 from rfl] at values top
  have next : BitVec.ofNat 16 (last + 1) = BitVec.ofNat 16 (s.cpu.pc.toNat + 3) := by
    rw [← hlast]
    exact BitVec.eq_of_toNat_eq (by simp)
  obtain ⟨t, call, cpuT, busT, _, frame⟩ := jsr
  obtain ⟨_, _, _, _, _, params, _⟩ := frame
  obtain ⟨u, ret, cpuU, _⟩ := rts_pulls t
  refine ⟨t, u, call, ret, ?_⟩
  rw [wraps] at cpuT busT
  rw [params, wraps, busT, cpuT] at cpuU
  dsimp only at cpuU
  rw [cpuU, toNat_settle_pushAll, values, top, settle_wrapping, pulledNumber_pushBytes, next]

end Sys2Proof.Claims
end

section
/-! PROOFS. The stack instructions: a push or pull of a width is one of a list of bytes, the status byte as a number, and what the
shared form of these instructions does (R340 to R358). -/

namespace Sys2Proof.Machine

/-! ## A push and a pull of a width -/

/-- A value of a width is pushed as the bytes of its number (R343 to R345). -/
theorem State.pushW_eq_pushList (nw : Bool) (w : Width) (v : Word) (s : State) :
    s.pushW nw w v = s.pushList nw (Claims.pushBytes w v.toNat) := by
  cases w with
  | w8 =>
    have byte : (wordLo v).toNat = v.toNat % 256 := BitVec.toNat_setWidth 8 v
    rw [State.pushW, State.push8_eq_pushList, byte]
    rfl
  | w16 => exact State.push16_eq_pushList nw v s

theorem State.toNat_pullW (nw : Bool) (w : Width) (s : State) :
    (s.pullW nw w).1.toNat = Claims.pulledNumber (s.pullList nw w.bytes).1 := by
  cases w with
  | w8 => exact toNat_byteWord _
  | w16 => exact toNat_wordOf _ _

theorem State.pullW_snd (nw : Bool) (w : Width) (s : State) : (s.pullW nw w).2 = (s.pullList nw w.bytes).2 := by
  cases w <;> rfl

theorem State.toNat_pullW_lt (nw : Bool) (w : Width) (s : State) : (s.pullW nw w).1.toNat < Claims.size w := by
  cases w with
  | w8 => exact (toNat_byteWord _).trans_lt (s.pull8 nw).1.isLt
  | w16 => exact (s.pull16 nw).1.isLt

end Sys2Proof.Machine

namespace Sys2Proof.Claims
open Sys2Proof.Machine

theorem low_pullW (nw : Bool) (w : Width) (s : State) :
    low w (s.pullW nw w).1 = pulledNumber (s.pullList nw w.bytes).1 :=
  (low_of_lt (s.toNat_pullW_lt nw w)).trans (s.toNat_pullW nw w)

/-! ## The status byte (R32, R353) -/

/-- A bit below a number. -/
theorem toNat_append_ofBool {n : Nat} (v : BitVec n) (b : Bool) : (v ++ BitVec.ofBool b).toNat = v.toNat * 2 + b.toNat :=
  BitVec.toNat_concat v b

theorem toNat_toByte (p : Status) : p.toByte.toNat = statusNumber p := by
  unfold Status.toByte statusNumber
  simp only [toNat_append_ofBool, BitVec.toNat_ofBool]
  omega

theorem withByte_forceEmulation (p : Status) (v : Byte) : (p.withByte v).forceEmulation = pulledStatus p v.toNat := by
  rw [Status.forceEmulation, Bool.or_comm, Bool.or_comm _ (p.withByte v).x]
  rfl

theorem indexUnder_eq (x : Bool) (v : Word) : indexUnder x v = if x then v &&& 0x00FF else v := by
  have low : (v &&& 0x00FF).toNat = v.toNat % 256 := Nat.and_two_pow_sub_one_eq_mod v.toNat 8
  rw [indexUnder, apply_ite (BitVec.ofNat 16), ← low, ofNat_toNat_self, ofNat_toNat_self]

theorem fixIndex_eq (c : Cpu) : c.fixIndex = { c with x := indexUnder c.p.x c.x, y := indexUnder c.p.x c.y } := by
  rw [indexUnder_eq, indexUnder_eq, Cpu.fixIndex]
  split <;> rfl

theorem pullStatus_eq (c : Cpu) (v : Byte) :
    c.pullStatus v =
      let p := pulledStatus c.p v.toNat
      { c with p := p, x := indexUnder p.x c.x, y := indexUnder p.x c.y } := by
  rw [Cpu.pullStatus, withByte_forceEmulation, fixIndex_eq]

/-- The remembered I is all that the six instructions of R418 change of the frame. -/
theorem markedFrame_of_frame {s t : State} (h : Frame s t) : MarkedFrame s (State.markMask s t) := by
  obtain ⟨run, pending, prev, _, rest⟩ := h
  exact ⟨rfl, run, pending, prev, rfl, rest⟩

/-! ## The shared form of the stack instructions (R340) -/

section
variable {i : Instr} {s : State}

/-- An instruction of the shared form pushes the bytes its function pushes, in the state `u` that its reads lead to. -/
theorem pushes_of_reads {u : State} {f : Bool → State → State} {bytes : List Nat} (reads : s.ReadsTo u)
    (h : exec i s = .next (stackInstr i.opcode f s)) (hf : ∀ nw, f nw s = u.pushList nw bytes) :
    Pushes i s u.bus bytes (advance i s s.cpu) := by
  have stacked := pushAll_eq (s.params.noWrap.contains i.opcode) bytes u
  have restored := restore_pushList (s.params.noWrap.contains i.opcode) bytes u
  have kept := fun c => pushList_cellByte (nw := s.params.noWrap.contains i.opcode) (l := bytes) (s := u) (c := c)
  have moves := reads.movesTo.trans (u.pushList_movesTo (s.params.noWrap.contains i.opcode) bytes)
  rw [reads.cpu_eq] at stacked restored
  simp only [reads.cpu_eq, reads.cellByte_eq] at kept
  rw [stackInstr, noWrapOf, hf] at h
  unfold Pushes
  dsimp only
  rw [stacked]
  exact ⟨_, h, (retire_cpu_eq_advance i _ s restored).trans rfl, rfl, kept, frame_of_moves moves _ _⟩

theorem pushes_of_stackInstr {f : Bool → State → State} {bytes : List Nat}
    (h : exec i s = .next (stackInstr i.opcode f s)) (hf : ∀ nw, f nw s = s.pushList nw bytes) :
    Pushes i s s.bus bytes (advance i s s.cpu) :=
  pushes_of_reads (.refl s) h hf

section
variable {w : Width} {g : Word → Cpu → Cpu} {regs : List Nat → Cpu} (he : ∀ l, (regs l).p.e = s.cpu.p.e)
    (hg : ∀ nw sp, g (s.pullW nw w).1 { s.cpu with s := sp } = { regs (s.pullList nw w.bytes).1 with s := sp })
include he hg

/-- The shared form with a pull of a width: the registers written from the value, S as the pulls leave it. -/
theorem stackInstr_pulls :
    let nw := s.params.noWrap.contains i.opcode
    let p := pullAll s.params.wmaddReadable s.cpu.p.e nw w.bytes s.bus s.cpu.s.toNat
    let t := stackInstr i.opcode (pullThen w g) s
    t.cpu = { advance i s (regs p.1) with s := settle s.cpu.p.e nw p.2.2 } ∧ t.bus = p.2.1 ∧ MemoryKept s t ∧ Frame s t := by
  dsimp only
  rw [pullAll_eq, stackInstr, noWrapOf]
  generalize s.params.noWrap.contains i.opcode = nw
  have pulled := s.pullW_snd nw w
  have registers : (pullThen w g nw s).cpu.restoreStackPage nw =
      { regs (s.pullList nw w.bytes).1 with s := settle s.cpu.p.e nw (s.pullList nw w.bytes).2.cpu.s.toNat } := by
    rw [restoreStackPage_eq, pullThen, State.mapCpu_cpu, pulled, State.pullList_cpu, hg]
    dsimp only
    rw [he]
  have bus : (pullThen w g nw s).bus = (s.pullList nw w.bytes).2.bus := by
    rw [pullThen, State.mapCpu_bus, pulled]
  have moves : s.MovesTo (pullThen w g nw s) := (s.pullW_movesTo nw w).trans (State.mapCpu_movesTo _ _)
  exact ⟨(retire_cpu_eq_advance i _ s registers).trans rfl, bus, (pullList_memoryKept nw w.bytes s).trans (.of_bus bus),
    frame_of_moves moves _ _⟩

theorem pulls_of_stackInstr (h : exec i s = .next (stackInstr i.opcode (pullThen w g) s)) :
    Pulls i s w.bytes (fun l => advance i s (regs l)) Frame :=
  ⟨_, h, stackInstr_pulls he hg⟩

/-- The same where I from before is remembered besides (R418). -/
theorem markedPulls_of_stackInstr (h : exec i s = .next (State.markMask s (stackInstr i.opcode (pullThen w g) s))) :
    Pulls i s w.bytes (fun l => advance i s (regs l)) MarkedFrame := by
  obtain ⟨registers, bus, memory, frame⟩ := stackInstr_pulls (i := i) he hg
  exact ⟨_, h, registers, bus, memory, markedFrame_of_frame frame⟩

end

end

/-! ## Pushes -/

theorem pei_pushes (dp : Byte) (s : State) :
    let p := pointer16 (directOffset s.cpu dp.toNat false) (directOffset s.cpu (dp.toNat + 1) false) s
    Pushes (.pei dp) s p.2.bus (pushBytes .w16 p.1) (advance (.pei dp) s s.cpu) := by
  have word : pointer16 (directOffset s.cpu dp.toNat false) (directOffset s.cpu (dp.toNat + 1) false) s =
      ((peiWord dp s).1.toNat, (peiWord dp s).2) := by
    rw [pointer16_eq, ← Cpu.dpAddr_ofNat, ← Cpu.dpAddr_ofNat, BitVec.ofNat_add, ← byteWord_eq_ofNat]
    rfl
  rw [word]
  exact pushes_of_reads (s.read16At_readsTo _ _) rfl fun nw => State.push16_eq_pushList nw _ _

/-- Settles O35: each push is of the shared form, with the bytes of its value. -/
theorem stackPushes : Obligations.StackPushes := by
  intro a dp s
  have relative : (s.cpu.pc + 3 + a).toNat = (s.cpu.pc.toNat + 3 + a.toNat) % 65536 := by
    rw [BitVec.toNat_add, BitVec.toNat_add, Nat.mod_add_mod]
    rfl
  dsimp only
  rw [← toNat_toByte, ← relative]
  have wide (w : Width) (v : Word) := fun nw => State.pushW_eq_pushList nw w v s
  have byte (v : Byte) := fun nw => State.push8_eq_pushList nw v s
  have word (v : Word) := fun nw => State.push16_eq_pushList nw v s
  exact ⟨pushes_of_stackInstr rfl (wide _ _), pushes_of_stackInstr rfl (wide _ _), pushes_of_stackInstr rfl (wide _ _),
    pushes_of_stackInstr rfl (byte _), pushes_of_stackInstr rfl (byte _), pushes_of_stackInstr rfl (word _),
    pushes_of_stackInstr rfl (byte _), pushes_of_stackInstr rfl (word _), pushes_of_stackInstr rfl (word _), pei_pushes dp s⟩

/-! ## Pulls -/

section
variable (s : State)

theorem pla_pulls :
    Pulls .pla s s.cpu.mw.bytes (fun l => advance .pla s { s.cpu with
      a := writtenA s.cpu.mw s.cpu.a (pulledNumber l), p := withNZ s.cpu.p s.cpu.mw (pulledNumber l) }) Frame := by
  refine pulls_of_stackInstr (fun _ => rfl) (fun _ _ => ?_) rfl
  rw [loadA_eq, low_pullW]

theorem plx_pulls :
    Pulls .plx s s.cpu.xw.bytes (fun l => advance .plx s { s.cpu with
      x := BitVec.ofNat 16 (pulledNumber l), p := withNZ s.cpu.p s.cpu.xw (pulledNumber l) }) Frame := by
  refine pulls_of_stackInstr (fun _ => rfl) (fun _ _ => ?_) rfl
  rw [loadX_eq, low_pullW]

theorem ply_pulls :
    Pulls .ply s s.cpu.xw.bytes (fun l => advance .ply s { s.cpu with
      y := BitVec.ofNat 16 (pulledNumber l), p := withNZ s.cpu.p s.cpu.xw (pulledNumber l) }) Frame := by
  refine pulls_of_stackInstr (fun _ => rfl) (fun _ _ => ?_) rfl
  rw [loadY_eq, low_pullW]

theorem plb_pulls :
    Pulls .plb s 1 (fun l => advance .plb s { s.cpu with
      db := BitVec.ofNat 8 (pulledNumber l), p := withNZ s.cpu.p .w8 (pulledNumber l) }) Frame := by
  refine pulls_of_stackInstr (w := .w8) (fun _ => rfl) (fun _ _ => ?_) rfl
  rw [setNZ_eq_withNZ, low_pullW, wordLo_eq_ofNat, State.toNat_pullW]

theorem pld_pulls :
    Pulls .pld s 2 (fun l => advance .pld s { s.cpu with
      d := BitVec.ofNat 16 (pulledNumber l), p := withNZ s.cpu.p .w16 (pulledNumber l) }) Frame := by
  refine pulls_of_stackInstr (w := .w16) (fun _ => rfl) (fun _ _ => ?_) rfl
  rw [setNZ_eq_withNZ, low_pullW, ← State.toNat_pullW, ofNat_toNat_self]

/-- The registers of PLP: the status pulled, and the index registers under its X (R353). -/
theorem plp_pulls :
    Pulls .plp s 1 (fun l =>
      let p := pulledStatus s.cpu.p (l.getD 0 0)
      advance .plp s { s.cpu with p := p, x := indexUnder p.x s.cpu.x, y := indexUnder p.x s.cpu.y }) MarkedFrame := by
  have byte (nw : Bool) : (wordLo (s.pullW nw .w8).1).toNat = (s.pullList nw 1).1.getD 0 0 :=
    (BitVec.toNat_setWidth 8 _).trans (low_pullW nw .w8 s)
  refine markedPulls_of_stackInstr (w := .w8) (fun _ => rfl) (fun _ _ => ?_) rfl
  rw [pullStatus_eq, byte]
  rfl

end

/-- Settles O36: each pull is of the shared form, with the number of its width; PLP remembers I besides. -/
theorem stackPulls : Obligations.StackPulls :=
  ⟨fun s => ⟨pla_pulls s, plx_pulls s, ply_pulls s, plb_pulls s, pld_pulls s⟩, plp_pulls⟩

end Sys2Proof.Claims
end

section
/-! PROOFS. Flag and mode instructions, and those that only move PC (R370 to R383). -/

namespace Sys2Proof.Claims
open Sys2Proof.Machine

/-! ## Flag instructions -/

/-- The shared form of the instructions on registers, where I from before is remembered besides (R418). -/
theorem markedRegisters_of_implied {i : Instr} {s : State} {f : Cpu → Cpu} {c : Cpu}
    (h : exec i s = .next (State.markMask s (impliedInstr i.opcode f s))) (hf : f s.cpu = c) :
    ∃ t, exec i s = .next t ∧ t.cpu = advance i s c ∧ t.bus = s.bus ∧ MarkedFrame s t :=
  ⟨_, h, retire_cpu_eq_advance i _ s hf, rfl, markedFrame_of_frame (frame_of_accesses (.refl s) _ _)⟩

/-- Settles O37: each of the seven is of the shared form with its flag; CLI and SEI remember I besides. -/
theorem flagInstructions : Obligations.FlagInstructions := fun _ =>
  ⟨registersOnly_of_implied rfl rfl, registersOnly_of_implied rfl rfl, registersOnly_of_implied rfl rfl,
    registersOnly_of_implied rfl rfl, registersOnly_of_implied rfl rfl, markedRegisters_of_implied rfl rfl,
    markedRegisters_of_implied rfl rfl⟩

/-! ## REP, SEP and XCE -/

/-- The flags of the status byte outside a mask, M and X held at 1 in emulation mode (R377). -/
theorem withByte_and_not (p : Status) (mask : Byte) :
    (p.withByte (p.toByte &&& ~~~mask)).forceEmulation = {
      n := p.n && !mask.getLsbD 7, v := p.v && !mask.getLsbD 6, m := p.e || (p.m && !mask.getLsbD 5)
      x := p.e || (p.x && !mask.getLsbD 4), d := p.d && !mask.getLsbD 3, i := p.i && !mask.getLsbD 2
      z := p.z && !mask.getLsbD 1, c := p.c && !mask.getLsbD 0, e := p.e } := by
  simp [Status.forceEmulation, Status.withByte]

/-- The flags of the status byte and those of a mask (R378). -/
theorem withByte_or (p : Status) (mask : Byte) :
    p.withByte (p.toByte ||| mask) = {
      n := p.n || mask.getLsbD 7, v := p.v || mask.getLsbD 6, m := p.m || mask.getLsbD 5
      x := p.x || mask.getLsbD 4, d := p.d || mask.getLsbD 3, i := p.i || mask.getLsbD 2
      z := p.z || mask.getLsbD 1, c := p.c || mask.getLsbD 0, e := p.e } := by
  simp [Status.withByte]

/-- Settles O38: both are of the shared form with I remembered; the flags are those of the masked status byte. -/
theorem maskInstructions : Obligations.MaskInstructions := by
  intro mask s
  refine ⟨markedRegisters_of_implied rfl ?_, markedRegisters_of_implied rfl ?_⟩
  · exact congrArg (fun p => { s.cpu with p := p }) (withByte_and_not _ _)
  · rw [Cpu.setBits, fixIndex_eq, withByte_or]
    rfl

theorem pageOne_eq_ofNat (v : Word) : pageOne v = BitVec.ofNat 16 (256 + v.toNat % 256) := by
  rw [← toNat_pageOne, ofNat_toNat_self]

/-- An index register in emulation mode keeps its low byte (R43). -/
theorem lowByte_eq_ofNat (v : Word) : v &&& 0x00FF = BitVec.ofNat 16 (v.toNat % 256) := (indexUnder_eq true v).symm

theorem enterEmulation_eq (c : Cpu) :
    c.enterEmulation = { c with
      p := { c.p with m := true, x := true }, x := BitVec.ofNat 16 (c.x.toNat % 256)
      y := BitVec.ofNat 16 (c.y.toNat % 256), s := BitVec.ofNat 16 (256 + c.s.toNat % 256) } := by
  rw [Cpu.enterEmulation, lowByte_eq_ofNat, lowByte_eq_ofNat, pageOne_eq_ofNat]

/-- Settles O39: C from before decides whether emulation mode is entered. -/
theorem exchangeCarryEmulation : Obligations.ExchangeCarryEmulation := by
  intro s
  refine registersOnly_of_implied rfl ?_
  rw [Cpu.exchange, enterEmulation_eq]
  cases s.cpu.p.c with
  | false => rfl
  | true => rfl

/-! ## No-operation, wait and stop -/

/-- The shared form without an update, in a run state: only PC moves, by the length of the instruction. -/
theorem idles_of_implied {i : Instr} {s : State} {n : Nat} {r : RunState}
    (h : exec i s = .next { impliedInstr i.opcode (fun c => c) s with run := r })
    (len : totalFetchBytes s.cpu.widths i.opcode = n) :
    ∃ t, exec i s = .next t ∧ t.cpu = { s.cpu with pc := BitVec.ofNat 16 (s.cpu.pc.toNat + n) } ∧ t.bus = s.bus ∧ t.run = r ∧
      Frame s { t with run := s.run } := by
  subst len
  exact ⟨_, h, retire_cpu_eq_advance i _ s rfl, rfl, rfl, frame_of_accesses (.refl s) _ _⟩

/-- Settles O40: each of the four is of the shared form without an update, of one byte or two. -/
theorem idleInstructions : Obligations.IdleInstructions := fun _ _ =>
  ⟨idles_of_implied rfl rfl, idles_of_implied rfl (show totalFetchBytes _ 0x42 = 2 from rfl), idles_of_implied rfl rfl,
    idles_of_implied rfl rfl⟩

end Sys2Proof.Claims
end

section
/-! PROOFS. Software interrupts and RTI: the frame an entry pushes, and the bytes RTI pulls (R384 to R386, R420 to R423). -/

namespace Sys2Proof.Machine

/-! ## Accesses and updates of the registers -/

theorem State.MovesTo.params_eq {s t : State} (h : s.MovesTo t) : t.params = s.params := by
  obtain ⟨_, _, _, rfl, _⟩ := h
  rfl

section
variable {f : Cpu → Cpu} (hf : ∀ c v, f { c with s := v } = { f c with s := v }) (he : ∀ c, (f c).p.e = c.p.e)
include hf he

/-- A pull goes on as before after an update that leaves S and E alone. -/
theorem State.pull8_mapCpu (nw : Bool) (s : State) :
    (s.mapCpu f).pull8 nw = ((s.pull8 nw).1, (s.pull8 nw).2.mapCpu f) := by
  have stack (c : Cpu) : (f c).s = c.s := (congrArg Cpu.s (hf c c.s) :)
  have risen : (f s.cpu).stackUp nw = f (s.cpu.stackUp nw) := by
    rw [Cpu.stackUp, he, stack, ← hf]
    rfl
  unfold State.pull8 State.mapCpu
  dsimp only
  rw [risen, stack]
  rfl

theorem State.pull16_mapCpu (nw : Bool) (s : State) :
    (s.mapCpu f).pull16 nw = ((s.pull16 nw).1, (s.pull16 nw).2.mapCpu f) := by
  rw [State.pull16, State.pull8_mapCpu hf he]
  dsimp only
  rw [State.pull8_mapCpu hf he]
  rfl

end

end Sys2Proof.Machine

namespace Sys2Proof.Claims
open Sys2Proof.Machine

/-! ## Entering an exception (R420, R421) -/

/-- The pushes of an entry are those of its frame. -/
theorem entry_pushList (nw : Bool) (ret : Word) (image : Byte) (s : State) :
    ((if s.cpu.p.e then s else s.push8 nw s.cpu.pb).push16 nw ret).push8 nw image =
      s.pushList nw (entryBytes s ret.toNat image.toNat) := by
  have high : ret.toNat / 256 % 256 = ret.toNat / 256 := by omega
  rw [State.push8_eq_pushList nw image, State.push16_eq_pushList, State.push8_eq_pushList, entryBytes, high]
  split <;> rfl

/-- The entry sequence: the frame pushed, the vector read, and the registers written (R420). -/
theorem enterException_eq (nw : Bool) (ret : Word) (image : Byte) (vector : Word) (s : State) :
    let u := s.pushList nw (entryBytes s ret.toNat image.toNat)
    let v := u.readPtr 0 vector
    s.enterException nw ret image vector = { v.2 with cpu := { s.cpu with
      s := settle s.cpu.p.e nw u.cpu.s.toNat, pb := 0, pc := v.1, p := { s.cpu.p with i := true, d := false } } } := by
  have registers := State.pushList_cpu nw (entryBytes s ret.toNat image.toNat) s
  rw [State.enterException, entry_pushList]
  generalize s.pushList nw (entryBytes s ret.toNat image.toNat) = u at registers ⊢
  dsimp only [State.mapCpu]
  rw [restoreStackPage_eq, State.readPtr_cpu]
  dsimp only
  rw [registers]
  rfl

/-- The entry sequence ends in the entered state, whatever cycles it is charged; no vector is the last word of bank 0. -/
theorem entered_of_enterException (nw : Bool) (ret : Word) (image : Byte) {vector : Word} (hv : vector.toNat < 65535)
    (n : Nat) (s : State) :
    Entered s { s.enterException nw ret image vector with cycles := n } nw ret.toNat image.toNat vector.toNat := by
  have kept := fun k => pushList_cellByte (nw := nw) (l := entryBytes s ret.toNat image.toNat) (s := s) (c := k)
  have moves := s.pushList_movesTo nw (entryBytes s ret.toNat image.toNat)
  have params : (s.pushList nw (entryBytes s ret.toNat image.toNat)).params = s.params := moves.params_eq
  unfold Entered
  dsimp only
  rw [enterException_eq, pushAll_eq]
  dsimp only
  generalize s.pushList nw (entryBytes s ret.toNat image.toNat) = u at *
  have reads := u.readPtr_readsTo 0 vector
  have word : wordRead s.params.wmaddReadable vector.toNat (vector.toNat + 1) u.bus =
      ((u.readPtr 0 vector).1.toNat, (u.readPtr 0 vector).2.bus) := by
    have inBank := wordRead_inBank 0 vector.toNat u
    rw [ofNat_toNat_self, params, Nat.mod_eq_of_lt (by omega), Nat.mod_eq_of_lt (by omega)] at inBank
    simpa using inBank
  rw [word, ofNat_toNat_self]
  exact ⟨rfl, rfl, fun k hk => (reads.cellByte_eq k).trans (kept k hk), frame_of_moves (moves.trans reads.movesTo) _ _⟩

theorem vectorAddress_lt (e : Bool) (kind : VectorKind) : (vectorAddress e kind).toNat < 65535 := by
  cases e <;> cases kind <;> decide

theorem toNat_vectorAddress_brk (e : Bool) : (vectorAddress e .brk).toNat = if e then 0xFFFE else 0xFFE6 := by cases e <;> rfl

theorem toNat_vectorAddress_cop (e : Bool) : (vectorAddress e .cop).toNat = if e then 0xFFF4 else 0xFFE4 := by cases e <;> rfl

/-- The shared form of BRK and COP enters with the address after the signature byte and the whole status byte. -/
theorem entered_of_softwareInterrupt {i : Instr} {kind : VectorKind} {s : State}
    (h : exec i s = .next (softwareInterrupt i.opcode kind s)) :
    ∃ t, exec i s = .next t ∧
      Entered s t (s.params.noWrap.contains i.opcode) ((s.cpu.pc.toNat + 2) % 65536) (statusNumber s.cpu.p)
        (vectorAddress s.cpu.p.e kind).toNat := by
  have entered := entered_of_enterException (noWrapOf s.params i.opcode) (s.cpu.pc + 2) s.cpu.p.toByte
    (vectorAddress_lt s.cpu.p.e kind)
  rw [toNat_toByte, BitVec.toNat_add] at entered
  exact ⟨_, h, entered _ s⟩

/-- Settles O41: both are of the shared form, each with its vector. -/
theorem softwareInterrupts : Obligations.SoftwareInterrupts := by
  intro sig s
  dsimp only
  rw [← toNat_vectorAddress_brk, ← toNat_vectorAddress_cop]
  exact ⟨entered_of_softwareInterrupt rfl, entered_of_softwareInterrupt rfl⟩

/-! ## RTI (R386, R423) -/

/-- The registers after RTI has pulled bytes, but for S. -/
def returnRegisters (c : Cpu) (l : List Nat) : Cpu :=
  let p := pulledStatus c.p (l.getD 0 0)
  { c with
    p := p, x := indexUnder p.x c.x, y := indexUnder p.x c.y, pc := BitVec.ofNat 16 (pulledNumber l.tail)
    pb := if c.p.e then c.pb else BitVec.ofNat 8 (l.getD 3 0) }

theorem pullStatus_e (c : Cpu) (v : Byte) : (c.pullStatus v).p.e = c.p.e := by
  rw [pullStatus_eq]
  rfl

/-- Pulling the status commutes with moving S. -/
theorem pullStatus_withS (v : Byte) (c : Cpu) (sp : Word) : { c with s := sp }.pullStatus v = { c.pullStatus v with s := sp } := by
  rw [pullStatus_eq, pullStatus_eq]

/-- The registers written by RTI from the status byte, the offset and the bank, with S settled (R386, R340). -/
theorem restore_pullStatus (nw : Bool) (c : Cpu) (v : Byte) (pc : Word) (pb : Byte) :
    { c.pullStatus v with pc := pc, pb := pb }.restoreStackPage nw =
      let p := pulledStatus c.p v.toNat
      { c with
        p := p, x := indexUnder p.x c.x, y := indexUnder p.x c.y, s := settle c.p.e nw c.s.toNat, pc := pc, pb := pb } := by
  rw [restoreStackPage_eq, pullStatus_eq]
  rfl

/-- The return sequence: the bytes pulled, and the registers written from them (R386, R423). -/
theorem returnFromException_eq (nw : Bool) (s : State) :
    let k := s.pullList nw (if s.cpu.p.e then 3 else 4)
    s.returnFromException nw =
      { k.2 with cpu := { returnRegisters s.cpu k.1 with s := settle s.cpu.p.e nw k.2.cpu.s.toNat } } := by
  have offset : ((s.pull8 nw).2.mapCpu fun c => c.pullStatus (s.pull8 nw).1).pull16 nw =
      (BitVec.ofNat 16 (pulledNumber (s.pullList nw 3).1.tail),
        (s.pullList nw 3).2.mapCpu fun c => c.pullStatus (s.pull8 nw).1) := by
    rw [State.pull16_mapCpu (pullStatus_withS _) fun c => pullStatus_e c _, State.pull16_eq_pullList]
    rfl
  have bank (pc : Word) : (((s.pullList nw 3).2.mapCpu fun c => c.pullStatus (s.pull8 nw).1).mapCpu
      fun c => { c with pc := pc }).pull8 nw = (((s.pullList nw 3).2.pull8 nw).1,
        (s.pullList nw 4).2.mapCpu fun c => { c.pullStatus (s.pull8 nw).1 with pc := pc }) :=
    State.pull8_mapCpu (f := fun c => { c.pullStatus (s.pull8 nw).1 with pc := pc })
      (fun c sp => by rw [pullStatus_withS]) (fun c => pullStatus_e c _) nw _
  have kept (n : Nat) := State.pullList_cpu nw n s
  unfold State.returnFromException
  dsimp only
  rw [offset]
  dsimp only
  rw [bank]
  have mode : ((s.pullList nw 3).2.cpu.pullStatus (s.pull8 nw).1).p.e = s.cpu.p.e := by rw [pullStatus_e, kept]
  split
  case isTrue he =>
    have he : s.cpu.p.e = true := mode.symm.trans he
    rw [if_pos he]
    refine congrArg (fun c => { (s.pullList nw 3).2 with cpu := c }) ((restore_pullStatus nw _ _ _ _).trans ?_)
    rw [State.mapCpu_cpu, Cpu.pullStatus_pb, kept, returnRegisters, if_pos he]
    rfl
  case isFalse he =>
    have he : ¬ s.cpu.p.e = true := fun e => he (mode.trans e)
    rw [if_neg he]
    refine congrArg (fun c => { (s.pullList nw 4).2 with cpu := c }) ((restore_pullStatus nw _ _ _ _).trans ?_)
    rw [kept, returnRegisters, if_neg he, ← ofNat_toNat_self (State.pull8 nw (s.pullList nw 3).2).1]
    rfl

theorem rti_pulls (s : State) :
    Pulls .rti s (if s.cpu.p.e then 3 else 4) (returnRegisters s.cpu) MarkedFrame := by
  have run : exec .rti s = .next (State.markMask s (State.charge 0x40 false false 0 s
      (s.returnFromException (s.params.noWrap.contains (Instr.opcode .rti))))) := rfl
  rw [returnFromException_eq] at run
  unfold Pulls
  dsimp only
  rw [pullAll_eq]
  exact ⟨_, run, rfl, rfl, pullList_memoryKept _ _ s, markedFrame_of_frame (frame_of_moves (s.pullList_movesTo _ _) _ _)⟩

/-- Settles O42: the registers of RTI are written from the three or four bytes it pulls. -/
theorem returnFromInterrupt : Obligations.ReturnFromInterrupt := rti_pulls

end Sys2Proof.Claims
end

section
/-! PROOFS. BRK or COP and then RTI: the frame lies in cells of its own, and what was saved comes back (R384 to R386, R423). -/

namespace Sys2Proof.Claims
open Sys2Proof.Machine

/-! ## The frame of an entry on the stack -/

theorem length_entryBytes (s : State) (ret image : Nat) :
    (entryBytes s ret image).length = if s.cpu.p.e then 3 else 4 := by
  rw [entryBytes]
  split <;> rfl

theorem entryBytes_lt {s : State} {ret image : Nat} (h : image < 256) : ∀ v ∈ entryBytes s ret image, v < 256 := by
  have bank : ∀ v ∈ if s.cpu.p.e then [] else [s.cpu.pb.toNat], v < 256 := by
    split
    · exact List.forall_mem_nil _
    · exact List.forall_mem_singleton.mpr s.cpu.pb.isLt
  have rest : ∀ v ∈ [ret / 256 % 256, ret % 256, image], v < 256 :=
    List.forall_mem_cons.mpr ⟨Nat.mod_lt _ (by decide),
      List.forall_mem_cons.mpr ⟨Nat.mod_lt _ (by decide), List.forall_mem_singleton.mpr h⟩⟩
  exact fun v hv => (List.mem_append.mp hv).elim (bank v) (rest v)

/-- A frame on a stack in the low WRAM of bank 0 goes to places of its own, and the pulls come back to them. -/
theorem places_frame {e : Bool} {sp : Nat} (page : e = true → sp / 256 = 1) (deep : 3 ≤ sp) (low : sp < 0x2000) :
    (∀ a ∈ places e false (if e then 3 else 4) sp, a < 0x2000 ∧ up e false (down e false a) = a) ∧
      (places e false (if e then 3 else 4) sp).Nodup := by
  cases e with
  | false =>
    simp only [places, down_eq, up_eq, Bool.false_eq_true, if_false, List.mem_cons, List.not_mem_nil, or_false, forall_eq_or_imp,
      forall_eq, List.nodup_cons, not_or, not_false_eq_true, List.nodup_nil, and_true]
    omega
  | true =>
    have page := page rfl
    simp only [places, down_eq, up_eq, if_true, List.mem_cons, List.not_mem_nil, or_false, forall_eq_or_imp, forall_eq,
      List.nodup_cons, not_or, not_false_eq_true, List.nodup_nil, and_true]
    omega

/-- RTI takes the status, the offset and in native mode PB from the bytes of a frame. -/
theorem returnRegisters_entryBytes {s : State} {c : Cpu} (mode : c.p.e = s.cpu.p.e) {ret : Nat} (h : ret < 65536) (image : Nat) :
    returnRegisters c (entryBytes s ret image).reverse =
      let p := pulledStatus c.p image
      { c with
        p := p, x := indexUnder p.x c.x, y := indexUnder p.x c.y, pc := BitVec.ofNat 16 ret
        pb := if s.cpu.p.e then c.pb else s.cpu.pb } := by
  have offset (l : List Nat) : pulledNumber (ret % 256 :: ret / 256 % 256 :: l) = ret := by
    show ret % 256 + 256 * (ret / 256 % 256) = ret
    omega
  rw [returnRegisters, entryBytes, mode]
  cases s.cpu.p.e with
  | true => simp [offset]
  | false => simp [offset]

theorem wordRead_cellByte (r : Bool) (lo hi : Nat) (b : Bus) (c : CellId) : (wordRead r lo hi b).2.cellByte c = b.cellByte c :=
  (Bus.read_cellByte _ _ _ _ _).trans (Bus.read_cellByte _ _ _ _ _)

/-! ## What the invariant keeps through a frame -/

/-- The whole status byte gives the flags back where emulation mode holds M and X at 1 (R42). -/
theorem pulledStatus_statusNumber {p : Status} (h : p.e = true → p.m = true ∧ p.x = true) : pulledStatus p (statusNumber p) = p := by
  have m : (p.e || p.m) = p.m := Bool.or_eq_right_iff_imp.mpr fun e => (h e).1
  have x : (p.e || p.x) = p.x := Bool.or_eq_right_iff_imp.mpr fun e => (h e).2
  rw [← toNat_toByte, ← withByte_forceEmulation, Status.withByte_toByte, Status.forceEmulation, m, x]

/-- An index register within the index-width invariant stays (R43). -/
theorem indexUnder_of_high {x : Bool} {v : Word} (h : x = true → wordHi v = 0) : indexUnder x v = v := by
  have kept : (if x then v.toNat % 256 else v.toNat) = v.toNat := by
    split
    case isTrue hx =>
      have high : v.toNat / 256 = 0 := (toNat_div_eq_wordHi v).trans (congrArg BitVec.toNat (h hx))
      omega
    case isFalse => rfl
  rw [indexUnder, kept, ofNat_toNat_self]

/-! ## Return after an entry -/

/-- RTI after an entry whose accesses wrap, from a stack in the low WRAM of bank 0, pulls the frame of that entry. -/
theorem rti_of_entered {s t : State} {ret image vector : Nat} (wf : s.bus.wf = true) (page : s.cpu.p.e = true → s.cpu.s.toNat / 256 = 1)
    (noWrap : s.params.noWrap = []) (deep : 3 ≤ s.cpu.s.toNat) (low : s.cpu.s.toNat < 0x2000) (hret : ret < 65536)
    (himage : image < 256) (h : Entered s t false ret image vector) :
    ∃ u, exec .rti t = .next u ∧
      u.cpu =
        let p := pulledStatus s.cpu.p image
        { s.cpu with
          p := p, x := indexUnder p.x s.cpu.x, y := indexUnder p.x s.cpu.y, pc := BitVec.ofNat 16 ret
          pb := if s.cpu.p.e then 0 else s.cpu.pb } := by
  obtain ⟨cpuT, busT, _, frame⟩ := h
  obtain ⟨_, _, _, _, _, params, _⟩ := frame
  obtain ⟨own, distinct⟩ := places_frame page deep low
  rw [← length_entryBytes s ret image] at own distinct
  obtain ⟨values, top⟩ := pullAll_pushAll s.params.wmaddReadable wf (entryBytes_lt himage) own distinct
    (wordRead_cellByte s.params.wmaddReadable vector (vector + 1) _)
  have wraps (op : Byte) : s.params.noWrap.contains op = false := by rw [noWrap]; rfl
  obtain ⟨u, run, cpuU, _⟩ := rti_pulls t
  refine ⟨u, run, cpuU.trans ?_⟩
  have mode : t.cpu.p.e = s.cpu.p.e := by rw [cpuT]
  have stack : t.cpu.s.toNat = (pushAll s.cpu.p.e false (entryBytes s ret image) s.bus s.cpu.s.toNat).2 := by
    rw [cpuT, toNat_settle_pushAll]
  rw [mode, stack, params, wraps, busT, ← length_entryBytes s ret image, values, top, settle_wrapping,
    returnRegisters_entryBytes mode hret, cpuT]
  rfl

/-- Settles O43: the entry saves the whole status byte and the address after the signature, and RTI pulls them. -/
theorem interruptThenReturn : Obligations.InterruptThenReturn := by
  intro sig i s hi inv noWrap deep low
  obtain ⟨registers, wf, _⟩ := (State.inv_iff s).mp inv
  obtain ⟨emulation, index⟩ := (Cpu.inv_iff s.cpu).mp registers
  have wraps (op : Byte) : s.params.noWrap.contains op = false := by rw [noWrap]; rfl
  have entry : ∃ t vector, exec i s = .next t ∧
      Entered s t false ((s.cpu.pc.toNat + 2) % 65536) (statusNumber s.cpu.p) vector := by
    obtain ⟨⟨t, brk, enteredBrk⟩, u, cop, enteredCop⟩ := softwareInterrupts sig s
    rw [wraps] at enteredBrk enteredCop
    rcases List.mem_pair.mp hi with rfl | rfl
    · exact ⟨t, _, brk, enteredBrk⟩
    · exact ⟨u, _, cop, enteredCop⟩
  obtain ⟨t, vector, enter, entered⟩ := entry
  have byte : statusNumber s.cpu.p < 256 := (toNat_toByte s.cpu.p).symm.trans_lt s.cpu.p.toByte.isLt
  obtain ⟨u, ret, cpu⟩ := rti_of_entered wf (page_of_inv registers) noWrap deep low (Nat.mod_lt _ (by decide)) byte entered
  refine ⟨t, u, enter, ret, cpu.trans ?_⟩
  have flags := pulledStatus_statusNumber fun e => (and_assoc.mpr (emulation e)).1
  have next : BitVec.ofNat 16 ((s.cpu.pc.toNat + 2) % 65536) = BitVec.ofNat 16 (s.cpu.pc.toNat + 2) :=
    BitVec.eq_of_toNat_eq (by simp)
  dsimp only
  rw [flags, next, indexUnder_of_high fun x => (index x).1, indexUnder_of_high fun x => (index x).2]

end Sys2Proof.Claims
end

section
/-! PROOFS. Block moves: what one step of MVN and MVP does to the registers, the bus and the memory (R400 to R402). -/

namespace Sys2Proof.Claims
open Sys2Proof.Machine

/-! ## Counting -/

/-- A register moved by a number, within a width. -/
theorem trunc_add_ofNat (w : Width) (v : Word) (n : Nat) :
    w.trunc (v + BitVec.ofNat 16 n) = BitVec.ofNat 16 ((v.toNat + n) % size w) := by
  have sum : v + BitVec.ofNat 16 n = BitVec.ofNat 16 (v.toNat + n) := by rw [BitVec.ofNat_add, ofNat_toNat_self]
  rw [trunc_eq_ofNat, sum, low_ofNat]

theorem sub_one_eq_ofNat (v : Word) : v - 1 = BitVec.ofNat 16 (v.toNat + 65535) := by
  rw [BitVec.ofNat_add, ofNat_toNat_self, BitVec.sub_eq_add_neg]
  rfl

/-- Counting down passes below 0 from 0 alone. -/
theorem sub_one_eq_max_iff (v : Word) : v - 1 = 0xFFFF ↔ v.toNat = 0 := by
  constructor <;> intro h <;> bv_omega

theorem addr24_eq_ofNat (bank : Byte) (off : Word) : addr24 bank off = BitVec.ofNat 24 (bank.toNat * 65536 + off.toNat) := by
  rw [← toNat_addr24, ofNat_toNat_self]

/-! ## One step of a block move (R400) -/

section
variable (op dst src : Byte) (step : Word) (s : State)

/-- The registers after a step by a number, of an instruction of three bytes. -/
theorem blockMove_cpu (n : Nat) (len : totalFetchBytes s.cpu.widths op = 3) :
    (blockMove op dst src (BitVec.ofNat 16 n) s).cpu =
      { s.cpu with
        x := BitVec.ofNat 16 ((s.cpu.x.toNat + n) % size s.cpu.xw), y := BitVec.ofNat 16 ((s.cpu.y.toNat + n) % size s.cpu.xw)
        a := BitVec.ofNat 16 (s.cpu.a.toNat + 65535), db := dst
        pc := if s.cpu.a.toNat = 0 then BitVec.ofNat 16 (s.cpu.pc.toNat + 3) else s.cpu.pc } := by
  have next : nextPc op s.cpu = BitVec.ofNat 16 (s.cpu.pc.toNat + 3) := by
    rw [nextPc, len, BitVec.ofNat_add, ofNat_toNat_self]
  have held : (if s.cpu.a - 1 = 0xFFFF then nextPc op s.cpu else s.cpu.pc) =
      if s.cpu.a.toNat = 0 then BitVec.ofNat 16 (s.cpu.pc.toNat + 3) else s.cpu.pc :=
    if_congr (sub_one_eq_max_iff s.cpu.a) next rfl
  rw [← trunc_add_ofNat, ← trunc_add_ofNat, ← sub_one_eq_ofNat, ← held]
  rfl

/-- The byte at the source bank and X is stored at the destination bank and Y. -/
theorem blockMove_bus :
    let r := s.bus.read s.params.wmaddReadable false (BitVec.ofNat 24 (src.toNat * 65536 + s.cpu.x.toNat))
    (blockMove op dst src step s).bus = r.2.write (BitVec.ofNat 24 (dst.toNat * 65536 + s.cpu.y.toNat)) r.1 := by
  rw [← addr24_eq_ofNat, ← addr24_eq_ofNat]
  rfl

/-- No byte of memory changes but the cell stored to. -/
theorem blockMove_cellByte (k : CellId) :
    let r := s.bus.read s.params.wmaddReadable false (BitVec.ofNat 24 (src.toNat * 65536 + s.cpu.x.toNat))
    r.2.storeCell (BitVec.ofNat 24 (dst.toNat * 65536 + s.cpu.y.toNat)) ≠ some k →
      (blockMove op dst src step s).bus.cellByte k = s.bus.cellByte k := by
  intro r other
  rw [blockMove_bus, Bus.write_cellByte_other _ _ _ _ other, Bus.read_cellByte]

theorem blockMove_frame : Frame s (blockMove op dst src step s) :=
  frame_of_accesses ((s.read8_readsTo _).accessesTo.trans (State.write8_accessesTo _ _ _)) _ _

end

/-- Settles O44: both are the shared step of a block move, by one up or by one down modulo 2^16. -/
theorem blockMoveStep : Obligations.BlockMoveStep := fun dst src s =>
  ⟨⟨_, rfl, blockMove_cpu 0x54 dst src s 1 rfl, blockMove_bus .., blockMove_cellByte _ _ _ _ _, blockMove_frame ..⟩,
    ⟨_, rfl, blockMove_cpu 0x44 dst src s 65535 rfl, blockMove_bus .., blockMove_cellByte _ _ _ _ _, blockMove_frame ..⟩⟩

end Sys2Proof.Claims
end

section
/-! PROOFS. RESET, NMI, IRQ, and the wait and stop states at a boundary (R412 to R426, R460): which part of the boundary runs, and
the state it answers. -/

namespace Sys2Proof.Machine

/-- The status image of a hardware interrupt is that of the flags with bit 4 clear in emulation mode (R44, R420). -/
theorem hardwareImage_eq_toByte (p : Status) : hardwareImage p = (if p.e then { p with x := false } else p).toByte := by
  have clear : p.toByte &&& 0xEF = { p with x := false }.toByte := by
    simp only [Status.toByte]
    generalize p.n = n, p.v = v, p.m = m, p.x = x, p.d = d, p.i = i, p.z = z, p.c = c
    revert n v m x d i z c
    decide
  rw [hardwareImage, clear, apply_ite Status.toByte]

/-- A hardware interrupt is the entry sequence with its own count of cycles (R420). -/
theorem State.interrupt_eq (kind : VectorKind) (s : State) :
    s.interrupt kind =
      { s.enterException s.params.noWrapInt s.cpu.pc (hardwareImage s.cpu.p) (vectorAddress s.cpu.p.e kind) with
        cycles := s.cycles + interruptCycles s.cpu } := by
  rw [State.interrupt, (s.enterException_movesTo _ _ _ _).cycles_eq]

/-- The registers the reset sequence writes, as numbers (R460). -/
theorem Cpu.resetRegisters_eq (c : Cpu) :
    c.resetRegisters = { c with
      p := { c.p with e := true, m := true, x := true, i := true, d := false }
      x := BitVec.ofNat 16 (c.x.toNat % 256), y := BitVec.ofNat 16 (c.y.toNat % 256)
      s := BitVec.ofNat 16 (256 + c.s.toNat % 256), d := 0, db := 0, pb := 0 } := by
  rw [Cpu.resetRegisters, Claims.lowByte_eq_ofNat, Claims.lowByte_eq_ofNat, Claims.pageOne_eq_ofNat]

end Sys2Proof.Machine

namespace Sys2Proof.Claims
open Sys2Proof.Machine

/-! ## The state at the boundary -/

theorem atBoundary_cpu (s : State) : (atBoundary s).cpu = s.cpu := by
  obtain ⟨b, m, h⟩ := atBoundary_eq s
  rw [h]

theorem atBoundary_cycles (s : State) : (atBoundary s).cycles = s.cycles := by
  obtain ⟨b, m, h⟩ := atBoundary_eq s
  rw [h]

theorem atBoundary_params (s : State) : (atBoundary s).params = s.params := by
  obtain ⟨b, m, h⟩ := atBoundary_eq s
  rw [h]

/-- The edge detector leaves an NMI pending where one is requested (R412). -/
theorem latchNmi_atBoundary (s : State) :
    (atBoundary s).latchNmi (line s).nmi = { atBoundary s with nmiPending := nmiRequested s, nmiPrev := (line s).nmi } := by
  obtain ⟨b, m, h⟩ := atBoundary_eq s
  rw [h]
  rfl

/-- `Ieff` and the count of draws after it (R418): the draw changes nothing where the two values of I agree. -/
theorem effectiveMask_eq (s : State) : s.effectiveMask = (maskInForce s, { s with draws := drawsAfterMask s }) := by
  obtain ⟨_, _, _, _, _, _, iBefore, _, _, _, _⟩ := s
  cases iBefore with
  | none => rfl
  | some old =>
    unfold State.effectiveMask maskInForce drawsAfterMask
    dsimp only
    split
    case isTrue same => rw [same, ite_self]
    case isFalse => rfl

/-- The mask in force at the boundary, and the state it is left in for an entry or an instruction (R418). -/
theorem effectiveMask_latchNmi_atBoundary (s : State) :
    let m := ((atBoundary s).latchNmi (line s).nmi).effectiveMask
    m.1 = maskInForce s ∧ m.2.leaveBoundary = { latched s with draws := drawsAfterMask s } := by
  obtain ⟨b, m, h⟩ := atBoundary_eq s
  unfold latched
  rw [effectiveMask_eq, h]
  exact ⟨rfl, rfl⟩

/-! ## Which part of the boundary runs -/

section
variable {s : State} (cart : s.bus.cart.isSome = true) (draw : s.params.uninitRead = .draw)
include cart draw

/-- Under `DRAW` a step is its boundary. -/
theorem step_of_draw : step s = State.boundaryWith (line s) { s with inputs := s.inputs.tail } := by
  obtain ⟨t, ht, k⟩ := State.boundaryWith_evolvesTo (line s) { s with inputs := s.inputs.tail }
  rw [step_of_cart cart]
  exact (congrArg faultUnwritten ht).trans ((faultUnwritten_draw (k.params ▸ draw)).trans ht.symm)

theorem step_of_reset (reset : (line s).reset = true) : step s = .next ((atBoundary s).resetSequence (line s).nmi) :=
  (step_of_draw cart draw).trans (State.boundaryWith_reset _ reset)

variable (reset : (line s).reset = false)
include reset

theorem step_of_stopped (run : s.run = .stopped) : step s = .next { s with inputs := s.inputs.tail } :=
  (step_of_draw cart draw).trans (State.boundaryWith_stopped reset run)

variable (run : s.run ≠ .stopped)
include run

theorem step_of_not_stopped : step s = (atBoundary s).nmiOrLater (line s) :=
  (step_of_draw cart draw).trans (State.boundaryWith_later reset run)

/-- A requested NMI is entered, and is pending no more (R412, R419). -/
theorem step_of_nmi (nmi : nmiRequested s = true) :
    step s = .next (State.takeInterrupt .nmi { latched s with nmiPending := false }) := by
  rw [step_of_not_stopped cart draw reset run, State.nmiOrLater, ← leaveBoundary_latchNmi_atBoundary, latchNmi_atBoundary, nmi]
  rfl

variable (nmi : nmiRequested s = false)
include nmi

theorem step_of_no_nmi : step s = ((atBoundary s).latchNmi (line s).nmi).irqOrExecute (line s).irq := by
  have pending : ((atBoundary s).latchNmi (line s).nmi).nmiPending = false := by rw [latchNmi_atBoundary, nmi]
  rw [step_of_not_stopped cart draw reset run, State.nmiOrLater]
  simp only [pending, Bool.false_eq_true, if_false]

/-- An asserted IRQ is entered, or the next instruction executes, by the mask in force (R413, R414, R425). -/
theorem step_of_irq (irq : (line s).irq = true) :
    step s =
      if maskInForce s then State.executeNext { latched s with draws := drawsAfterMask s }
      else .next (State.takeInterrupt .irq { latched s with draws := drawsAfterMask s }) := by
  obtain ⟨mask, left⟩ := effectiveMask_latchNmi_atBoundary s
  rw [step_of_no_nmi cart draw reset run nmi, State.irqOrExecute, if_pos irq]
  dsimp only
  rw [mask, left]

end

/-! ## The entries -/

theorem toNat_vectorAddress_nmi (e : Bool) : (vectorAddress e .nmi).toNat = if e then 0xFFFA else 0xFFEA := by cases e <;> rfl

theorem toNat_vectorAddress_irq (e : Bool) : (vectorAddress e .irq).toNat = if e then 0xFFFE else 0xFFEE := by cases e <;> rfl

/-- A hardware interrupt taken from a state `u` with the registers, parameters and cycles of `s` enters with the address of the next
instruction and the hardware status image (R420, R421). -/
theorem entered_of_takeInterrupt {s u : State} (kind : VectorKind) (cpu : u.cpu = s.cpu) (cycles : u.cycles = s.cycles)
    (params : u.params = s.params) (draw : s.params.uninitRead = .draw) :
    Entered u (u.takeInterrupt kind) s.params.noWrapInt s.cpu.pc.toNat
        (statusNumber (if s.cpu.p.e then { s.cpu.p with x := false } else s.cpu.p)) (vectorAddress s.cpu.p.e kind).toNat ∧
      (u.takeInterrupt kind).cycles = s.cycles + if s.cpu.p.e then 7 else 8 := by
  rw [← params] at draw
  rw [State.takeInterrupt, State.note_draw _ draw, State.interrupt_eq, ← cpu, ← cycles, ← params, ← toNat_toByte,
    ← hardwareImage_eq_toByte]
  exact ⟨entered_of_enterException _ _ _ (vectorAddress_lt _ kind) _ u, rfl⟩

/-! ## The statements -/

/-- Settles O52: the step is the reset sequence, which reads its vector and changes no memory. -/
theorem resetTaken : Obligations.ResetTaken := by
  intro s cart draw reset u v
  have run := step_of_reset cart draw reset
  have kept := (evolvesTo_of_step_eq_next run).cart
  have params : u.params = s.params := atBoundary_params s
  have bus : (u.resetSequence (line s).nmi).bus = v.2 := by rw [State.resetSequence_bus, params]
  refine ⟨_, run, ?_, bus, fun c => ?_, kept, atBoundary_cycles s, rfl, rfl, rfl⟩
  · rw [State.resetSequence_cpu, Cpu.resetRegisters_eq, atBoundary_cpu, atBoundary_params]
  · exact (congrArg (·.cellByte c) bus).trans (wordRead_cellByte _ _ _ _ c)

/-- Settles O53: the step is the entry of an NMI. -/
theorem nmiTaken : Obligations.NmiTaken := by
  intro s cart draw reset run nmi u
  rw [← toNat_vectorAddress_nmi]
  exact ⟨_, step_of_nmi cart draw reset run nmi,
    entered_of_takeInterrupt .nmi (latched_cpu s) (latched_cycles s) (latched_params s) draw⟩

/-- Settles O54: the mask in force decides between the entry of an IRQ and the instruction fetched. -/
theorem irqAtBoundary : Obligations.IrqAtBoundary := by
  refine ⟨fun s cart draw reset run nmi irq mask => ?_, fun s cart draw reset run nmi irq mask => ?_⟩
  · have taken := step_of_irq cart draw reset run nmi irq
    rw [if_neg (ne_true_of_eq_false mask)] at taken
    dsimp only
    rw [← toNat_vectorAddress_irq]
    exact ⟨_, taken, entered_of_takeInterrupt .irq (latched_cpu s) (latched_cycles s) (latched_params s) draw⟩
  · have executed := step_of_irq cart draw reset run nmi irq
    rw [if_pos mask] at executed
    exact executed.trans (State.executeNext_draw ((congrArg Params.uninitRead (latched_params s)).trans draw))

/-- Settles O55: stopped the step only takes its input; waiting with no line asserted it goes no further than the edge detector. -/
theorem waitingAndStoppedStay : Obligations.WaitingAndStoppedStay := by
  intro s cart draw reset
  refine ⟨step_of_stopped cart draw reset, fun waiting nmi irq => ?_⟩
  have idle : ((atBoundary s).latchNmi (line s).nmi).run = .waiting := by
    obtain ⟨b, m, h⟩ := atBoundary_eq s
    rw [h]
    exact waiting
  rw [step_of_no_nmi cart draw reset (by simp [waiting]) nmi, State.irqOrExecute, irq, if_pos idle, latchNmi_atBoundary, nmi]
  rfl

end Sys2Proof.Claims
end
